-- ==== Sys2Proof/Word.lean ====
section
/-! DEFINITION. The names of the things the CX440 numbers, and its bytes.
The identities are those of 00_scope.md, "Rows, bays and places": a row, a robot, a shuttle, a transfer tag and a bay
are numbers below a fixed bound, so each is a `Fin`. What a frame or the link carries is bytes, so those are bit vectors. -/

namespace Sys2Proof

/-- One byte of a frame or of a link transaction (R180, R82). -/
abbrev Byte := BitVec 8

/-- A farm second: an unsigned 32-bit count (R13). -/
abbrev FarmSecond := BitVec 32

/-- A row number 0..255 (R1). -/
abbrev RowId := Fin 256

/-- A robot identity 0..23 (R42). -/
abbrev RobotId := Fin 24

/-- A shuttle identity 0..3 (R64). -/
abbrev ShuttleId := Fin 4

/-- A transfer tag 0..31 (R62). -/
abbrev Tag := Fin 32

/-- A bay number 0..15 (00_scope.md). -/
abbrev Bay := Fin 16

/-- An urgency class 0..3 (R96). -/
abbrev Urgency := Fin 4

end Sys2Proof
end

