-- ==== Sys2Proof/Syntax.lean ====
section
/-! DEFINITION. The commands of the CX440: one constructor of `Instr` for each row of spec/opcode_table.json.
A command is a frame taken at one of the three ports, an event on a pin, or an event of the part's own clock, link or
engine. A request carries its arguments as its frame carries them (R186), so a robot, shuttle, bay or parameter number
that is out of range is still a command, and its refusal is part of the command's meaning. -/

namespace Sys2Proof

/-- The three ports (R180). -/
inductive Port where
  | plant | tracker | fleet
  deriving DecidableEq, Repr

/-- The two masts (R151). -/
inductive Mast where
  | a | b
  deriving DecidableEq, Repr

/-- The header of a request frame beside its kind: the port it was taken on, its tag byte and its length byte (R187). -/
structure Frame where
  port : Port
  tag  : Byte
  len  : Byte
  deriving DecidableEq, Repr

/-- One place entry of MAP BAY (R7, R186). -/
structure PlaceEntry where
  present : Bool
  cradle  : Bool
  kc      : BitVec 16
  deriving DecidableEq, Repr

/-- Where a transfer takes its robot: a row end, or the garage of the transfer's shuttle (R62). -/
inductive Dest where
  | rowEnd (r : RowId)
  | garage
  deriving DecidableEq, Repr

/-- The five bytes clocked in during the data of a STATUS (R82, R187). -/
structure StatusBytes where
  state    : Byte
  position : Byte
  flags    : Byte
  load     : Byte
  fault    : Byte
  deriving DecidableEq, Repr

/-- The commands. Each constructor's docstring names its row of the table. -/
inductive Instr where
  /-- FETCH: a fetch frame of `clocked` whole bytes (R184). -/
  | fetch (p : Port) (clocked : Nat)
  /-- STATUS_READ: a frame of 0 to 2 whole bytes (R182, case 2). -/
  | statusRead (p : Port) (bytes : Fin 3)
  /-- TRUNCATED_FRAME: fewer payload bytes than the length byte says (R182, case 4). -/
  | truncatedFrame (p : Port)
  /-- UNKNOWN_REQUEST: a kind not in the catalogue, or not permitted on the port (R182, case 6). -/
  | unknownRequest (f : Frame) (kind : Byte)
  /-- PORT_RESET: a frame whose first byte is 0xFF (R189). -/
  | portReset (p : Port)
  /-- READ_ROW (R135). -/
  | readRow (f : Frame) (r : RowId)
  /-- READ_ROBOT (R49). -/
  | readRobot (f : Frame) (robot : Byte)
  /-- READ_SHUTTLE (R80). -/
  | readShuttle (f : Frame) (shuttle : Byte)
  /-- READ_WEATHER (R161, R179). -/
  | readWeather (f : Frame)
  /-- MAP_BAY (R7, R8). -/
  | mapBay (f : Frame) (bay : Byte) (entries : Vector PlaceEntry 16)
  /-- SET_SHUTTLE (R11); first and last bay both 0xFF give none (R186). -/
  | setShuttle (f : Frame) (shuttle first last : Byte)
  /-- CONFIGURE (R188). -/
  | configure (f : Frame) (parameter : Byte) (value : BitVec 32)
  /-- SET_TIME (R14). -/
  | setTime (f : Frame) (t : FarmSecond)
  /-- OUTPUT_REPORT (R118): Pref, T as carried, the count byte n, and the pairs of row and Pm. -/
  | outputReport (f : Frame) (pref t : BitVec 16) (n : Byte) (pairs : List (RowId × BitVec 16))
  /-- CLOSE_PERIOD (R142). -/
  | closePeriod (f : Frame)
  /-- READ_PERIOD (R144). -/
  | readPeriod (f : Frame)
  /-- READ_LIVE (R145). -/
  | readLive (f : Frame)
  /-- RESET_ACCOUNTS (R146). -/
  | resetAccounts (f : Frame)
  /-- CALIBRATE_ROW (R134). -/
  | calibrateRow (f : Frame) (r : RowId) (kc : BitVec 16)
  /-- LOCK_ROW (R39). -/
  | lockRow (f : Frame) (r : RowId)
  /-- RESTORE_ROW (R40). -/
  | restoreRow (f : Frame) (r : RowId)
  /-- CLEAR_SHUTTLE (R79). -/
  | clearShuttle (f : Frame) (shuttle : Byte)
  /-- LINK_RESUME (R92). -/
  | linkResume (f : Frame)
  /-- FLEET_RESET (R60, R61). -/
  | fleetReset (f : Frame)
  /-- FETCH_ATTENTION (R38). -/
  | fetchAttention (f : Frame) (start : RowId)
  /-- HOLD_CONFIRM (R24). -/
  | holdConfirm (f : Frame) (r : RowId)
  /-- STOW_DONE (R33). -/
  | stowDone (f : Frame) (r : RowId)
  /-- UNSTOW_DONE (R33). -/
  | unstowDone (f : Frame) (r : RowId)
  /-- ROW_FAULT (R30). -/
  | rowFault (f : Frame) (r : RowId)
  /-- ROW_READY (R31). -/
  | rowReady (f : Frame) (r : RowId)
  /-- ENROLL (R50). -/
  | enroll (f : Frame) (robot : Byte) (r : RowId)
  /-- WITHDRAW (R51). -/
  | withdraw (f : Frame) (robot : Byte)
  /-- ROBOT_STATUS (R52): battery, fault flag, and the acknowledged GO row if one is given. -/
  | robotStatus (f : Frame) (robot battery : Byte) (fault : Bool) (ack : Option RowId)
  /-- REQUEST_WORK (R101). -/
  | requestWork (f : Frame) (robot : Byte)
  /-- ENTER_ROW (R22). -/
  | enterRow (f : Frame) (robot : Byte) (r : RowId)
  /-- EXIT_ROW (R29). -/
  | exitRow (f : Frame) (robot : Byte)
  /-- CLEAN_DONE (R111). -/
  | cleanDone (f : Frame) (robot : Byte)
  /-- CLEAN_ABORT (R113). -/
  | cleanAbort (f : Frame) (robot : Byte)
  /-- BRACED (R173). -/
  | braced (f : Frame) (robot : Byte)
  /-- UNBRACED (R174). -/
  | unbraced (f : Frame) (robot : Byte)
  /-- TRANSFER (R66). -/
  | transfer (f : Frame) (robot : Byte) (dest : Dest)
  /-- FETCH_ORDERS (R48). -/
  | fetchOrders (f : Frame)
  /-- RESETN_ASSERTED (R190). -/
  | resetnAsserted
  /-- POWER_ON: the release of RESETn (R190). -/
  | powerOn
  /-- TICK (R13). -/
  | tick
  /-- MAST_PULSE: a rising edge on MAST_A or MAST_B (R152). -/
  | mastPulse (m : Mast)
  /-- CONTEND_ASSERTED (R88). -/
  | contendAsserted
  /-- CONTEND_DEASSERTED (R88). -/
  | contendDeasserted
  /-- HOLD_CONFIRM_EXPIRY (R25). -/
  | holdConfirmExpiry (k : RobotId)
  /-- HOLD_LIMIT_EXPIRY (R28). -/
  | holdLimitExpiry (k : RobotId)
  /-- SHUTTLE_STEP_EXPIRY (R76). -/
  | shuttleStepExpiry (s : ShuttleId)
  /-- PARK_DEADLINE_EXPIRY (R172). -/
  | parkDeadlineExpiry
  /-- CALM_HOLDOFF_EXPIRY (R165). -/
  | calmHoldoffExpiry
  /-- POLL_DUE (R71). -/
  | pollDue (s : ShuttleId)
  /-- TRANSACTION_START (R85). -/
  | transactionStart
  /-- TRANSACTION_COMPLETION (R86); `data` is what the shuttle drove, read for a STATUS only. -/
  | transactionCompletion (data : StatusBytes)
  /-- ROW_STEP (R120): the row step of the next pair of the report in flight. -/
  | rowStep
  /-- MAST_STEP (R154): the mast step the engine's arbiter chooses (R117). -/
  | mastStep
  deriving DecidableEq, Repr

end Sys2Proof
end

