-- ==== Sys2Proof/Machine/Catalogue.lean ====
section
/-! DEFINITION. The catalogue of requests (chapter 11, section 11.3): kind code, the ports on which a request is
permitted, its payload length, and whether R6 names it a row request. -/

namespace Sys2Proof

/-- One line of the catalogue. -/
structure Request where
  kind    : Byte
  plant   : Bool
  tracker : Bool
  fleet   : Bool
  /-- the fixed payload length, or none for OUTPUT REPORT, whose length R118 checks -/
  len     : Option Nat
  /-- whether step 1 of R6 (NO_MAP) is checked by the port interface (R182, case 6) -/
  row     : Bool
  deriving DecidableEq, Repr

/-- Whether the request is permitted on the port. -/
def Request.on (q : Request) : Port → Bool
  | .plant => q.plant
  | .tracker => q.tracker
  | .fleet => q.fleet

/-- The kind code of FETCH. -/
def fetchKind : Byte := 0x01
/-- The first byte of a PORT RESET frame. -/
def portResetKind : Byte := 0xFF

def Request.readRow : Request := ⟨0x02, true, true, true, some 1, true⟩
def Request.readRobot : Request := ⟨0x03, true, true, true, some 1, false⟩
def Request.readShuttle : Request := ⟨0x04, true, true, true, some 1, false⟩
def Request.readWeather : Request := ⟨0x05, true, true, true, some 0, false⟩
def Request.mapBay : Request := ⟨0x10, true, false, false, some 49, false⟩
def Request.setShuttle : Request := ⟨0x11, true, false, false, some 3, false⟩
def Request.configure : Request := ⟨0x12, true, false, false, some 5, false⟩
def Request.setTime : Request := ⟨0x13, true, false, false, some 4, false⟩
def Request.outputReport : Request := ⟨0x14, true, false, false, none, true⟩
def Request.closePeriod : Request := ⟨0x15, true, false, false, some 0, false⟩
def Request.readPeriod : Request := ⟨0x16, true, false, false, some 0, false⟩
def Request.readLive : Request := ⟨0x17, true, false, false, some 0, false⟩
def Request.resetAccounts : Request := ⟨0x18, true, false, false, some 0, false⟩
def Request.calibrateRow : Request := ⟨0x19, true, false, false, some 3, true⟩
def Request.lockRow : Request := ⟨0x1A, true, false, false, some 1, true⟩
def Request.restoreRow : Request := ⟨0x1B, true, false, false, some 1, true⟩
def Request.clearShuttle : Request := ⟨0x1C, true, false, false, some 1, false⟩
def Request.linkResume : Request := ⟨0x1D, true, false, false, some 0, false⟩
def Request.fleetReset : Request := ⟨0x1E, true, false, false, some 0, false⟩
def Request.fetchAttention : Request := ⟨0x30, false, true, false, some 1, false⟩
def Request.holdConfirm : Request := ⟨0x31, false, true, false, some 1, true⟩
def Request.stowDone : Request := ⟨0x32, false, true, false, some 1, true⟩
def Request.unstowDone : Request := ⟨0x33, false, true, false, some 1, true⟩
def Request.rowFault : Request := ⟨0x34, false, true, false, some 1, true⟩
def Request.rowReady : Request := ⟨0x35, false, true, false, some 1, true⟩
def Request.enroll : Request := ⟨0x50, false, false, true, some 2, true⟩
def Request.withdraw : Request := ⟨0x51, false, false, true, some 1, false⟩
def Request.robotStatus : Request := ⟨0x52, false, false, true, some 4, false⟩
def Request.requestWork : Request := ⟨0x53, false, false, true, some 1, false⟩
def Request.enterRow : Request := ⟨0x54, false, false, true, some 2, true⟩
def Request.exitRow : Request := ⟨0x55, false, false, true, some 1, false⟩
def Request.cleanDone : Request := ⟨0x56, false, false, true, some 1, false⟩
def Request.cleanAbort : Request := ⟨0x57, false, false, true, some 1, false⟩
def Request.braced : Request := ⟨0x58, false, false, true, some 1, false⟩
def Request.unbraced : Request := ⟨0x59, false, false, true, some 1, false⟩
/-- TRANSFER is a row request when its destination is a row (R6). -/
def Request.transfer : Dest → Request
  | .rowEnd _ => ⟨0x5A, false, false, true, some 3, true⟩
  | .garage => ⟨0x5A, false, false, true, some 3, false⟩
def Request.fetchOrders : Request := ⟨0x5B, false, false, true, some 0, false⟩

/-- The requests of section 11.3 but FETCH and PORT RESET, which R182 takes by earlier cases. -/
def catalogue : List Request :=
  [ .readRow, .readRobot, .readShuttle, .readWeather, .mapBay, .setShuttle, .configure, .setTime, .outputReport,
    .closePeriod, .readPeriod, .readLive, .resetAccounts, .calibrateRow, .lockRow, .restoreRow, .clearShuttle,
    .linkResume, .fleetReset, .fetchAttention, .holdConfirm, .stowDone, .unstowDone, .rowFault, .rowReady, .enroll,
    .withdraw, .robotStatus, .requestWork, .enterRow, .exitRow, .cleanDone, .cleanAbort, .braced, .unbraced,
    .transfer .garage, .fetchOrders ]

/-- Whether the kind stands in the catalogue and is permitted on the port (R182, case 6). -/
def permittedKind (p : Port) (kind : Byte) : Bool :=
  catalogue.any fun q => q.kind == kind && q.on p

end Sys2Proof
end

