-- ==== Sys2Proof/WellFormed.lean ====
section
/-! DEFINITION. Which commands can arise from a frame. Every other bound on an operand is in its type. -/

namespace Sys2Proof

/-- A command that some frame or event gives: a fetch has at least the three bytes of its header (R182, case 2 before
case 3), an unknown request's kind is not one that R182 takes otherwise, and an OUTPUT REPORT whose length agrees with
its count carries that many pairs (R187). -/
def Instr.wf : Instr → Bool
  | .fetch _ clocked => decide (3 ≤ clocked)
  | .unknownRequest f kind => kind != fetchKind && kind != portResetKind && !permittedKind f.port kind
  | .outputReport f _ _ n pairs => decide (f.len.toNat = 5 + 3 * n.toNat → pairs.length = n.toNat)
  | _ => true

/-- A well-formed command. -/
abbrev Instr.WellFormed (c : Instr) : Prop := c.wf = true

end Sys2Proof
end

