-- ==== Sys2Proof/Decode.lean ====
section
/-! DEFINITION. How the bytes of a frame spell a command (R182, R186, R187). The table gives its rows no bits, so
`decodeTableWord` answers none for every word (log entry 27). -/

namespace Sys2Proof

/-- The command that a word of the table spells: none, because no row of the table has bits (log entry 27). -/
def decodeTableWord (_nbits _w : Nat) : Option Instr := none

/-- Byte `i` of a payload; a byte that was not sent reads as 0 (log entry 22). -/
def payloadByte (bytes : List Byte) (i : Nat) : Byte := bytes.getD i 0

/-- A row byte of a payload: every value is a row. -/
def payloadRow (bytes : List Byte) (i : Nat) : RowId := ⟨(payloadByte bytes i).toNat, (payloadByte bytes i).isLt⟩

/-- Two bytes, most significant first (R186). -/
def payloadWord (bytes : List Byte) (i : Nat) : BitVec 16 := payloadByte bytes i ++ payloadByte bytes (i + 1)

/-- Four bytes, most significant first (R186). -/
def payloadLong (bytes : List Byte) (i : Nat) : BitVec 32 := payloadWord bytes i ++ payloadWord bytes (i + 2)

/-- Place entry `i` of MAP BAY: flags with present in bit 0 and cradle in bit 1, then kc (R186). -/
def payloadEntry (bytes : List Byte) (i : Nat) : PlaceEntry :=
  let flags := payloadByte bytes (1 + 3 * i)
  { present := flags.getLsbD 0, cradle := flags.getLsbD 1, kc := payloadWord bytes (2 + 3 * i) }

/-- Pair `i` of an OUTPUT REPORT (R187). -/
def payloadPair (bytes : List Byte) (i : Nat) : RowId × BitVec 16 :=
  (payloadRow bytes (5 + 3 * i), payloadWord bytes (6 + 3 * i))

/-- The request of a kind with its payload; none for a kind that is not in the catalogue of section 11.3. -/
def requestOf (f : Frame) (kind : Byte) (x : List Byte) : Option Instr :=
  let b := payloadByte x
  match kind.toNat with
  | 0x02 => some (.readRow f (payloadRow x 0))
  | 0x03 => some (.readRobot f (b 0))
  | 0x04 => some (.readShuttle f (b 0))
  | 0x05 => some (.readWeather f)
  | 0x10 => some (.mapBay f (b 0) (Vector.ofFn fun i => payloadEntry x i.val))
  | 0x11 => some (.setShuttle f (b 0) (b 1) (b 2))
  | 0x12 => some (.configure f (b 0) (payloadLong x 1))
  | 0x13 => some (.setTime f (payloadLong x 0))
  | 0x14 =>
    some (.outputReport f (payloadWord x 0) (payloadWord x 2) (b 4) ((List.range (b 4).toNat).map (payloadPair x)))
  | 0x15 => some (.closePeriod f)
  | 0x16 => some (.readPeriod f)
  | 0x17 => some (.readLive f)
  | 0x18 => some (.resetAccounts f)
  | 0x19 => some (.calibrateRow f (payloadRow x 0) (payloadWord x 1))
  | 0x1A => some (.lockRow f (payloadRow x 0))
  | 0x1B => some (.restoreRow f (payloadRow x 0))
  | 0x1C => some (.clearShuttle f (b 0))
  | 0x1D => some (.linkResume f)
  | 0x1E => some (.fleetReset f)
  | 0x30 => some (.fetchAttention f (payloadRow x 0))
  | 0x31 => some (.holdConfirm f (payloadRow x 0))
  | 0x32 => some (.stowDone f (payloadRow x 0))
  | 0x33 => some (.unstowDone f (payloadRow x 0))
  | 0x34 => some (.rowFault f (payloadRow x 0))
  | 0x35 => some (.rowReady f (payloadRow x 0))
  | 0x50 => some (.enroll f (b 0) (payloadRow x 1))
  | 0x51 => some (.withdraw f (b 0))
  | 0x52 =>
    some (.robotStatus f (b 0) (b 1) ((b 2).getLsbD 0) (if (b 2).getLsbD 1 then some (payloadRow x 3) else none))
  | 0x53 => some (.requestWork f (b 0))
  | 0x54 => some (.enterRow f (b 0) (payloadRow x 1))
  | 0x55 => some (.exitRow f (b 0))
  | 0x56 => some (.cleanDone f (b 0))
  | 0x57 => some (.cleanAbort f (b 0))
  | 0x58 => some (.braced f (b 0))
  | 0x59 => some (.unbraced f (b 0))
  | 0x5A => some (.transfer f (b 0) (if (b 1).getLsbD 0 then .garage else .rowEnd (payloadRow x 2)))
  | 0x5B => some (.fetchOrders f)
  | _ => none

/-- The command a frame is taken as, from the whole bytes the master sent: the first case of R182 that they meet. A full
queue (case 5) and the checks of case 6 are part of the request's meaning. -/
def frameCommand (p : Port) (bytes : List Byte) : Instr :=
  if bytes.head? = some portResetKind then .portReset p
  else
    match bytes with
    | [] => .statusRead p 0
    | [_] => .statusRead p 1
    | [_, _] => .statusRead p 2
    | kind :: tag :: len :: rest =>
      if kind = fetchKind then .fetch p (3 + rest.length)
      else if len.toNat ≤ 250 ∧ rest.length < len.toNat then .truncatedFrame p
      else
        let f : Frame := { port := p, tag := tag, len := len }
        match if permittedKind p kind then requestOf f kind (rest.take len.toNat) else none with
        | some c => c
        | none => .unknownRequest f kind

/-- The whole bytes of the bits clocked in a frame, most significant bit first; bits after the last whole byte are discarded
(R180). -/
def wholeBytes : List Bool → List Byte
  | b7 :: b6 :: b5 :: b4 :: b3 :: b2 :: b1 :: b0 :: rest =>
    BitVec.ofBoolListBE [b7, b6, b5, b4, b3, b2, b1, b0] :: wholeBytes rest
  | _ => []

/-- The command that the bits of a frame are taken as (R180, R182). -/
def frameOfBits (p : Port) (bits : List Bool) : Instr := frameCommand p (wholeBytes bits)

end Sys2Proof
end

