-- ==== Sys2Proof/Config.lean ====
section
/-! DEFINITION. What the spec leaves open: the free values, each an opaque constant of which nothing can be proved.
Each is applied to the counter `freeSeed` of the state, which the step that uses it advances. The fixed figures of the
part (capacities, parameter ranges and defaults) are not here: the spec gives them, and they stand beside their rules. -/

namespace Sys2Proof

/-- DESIGN CHOICE (log entry 8), safe: the four bytes at offset 24 of READ ROW for a row never cleaned. R187 calls them
meaningful only when bit 0 of offset 23 is set, and gives no value for the other case. -/
opaque Config.neverCleanedBytes : Nat → BitVec 32

/-- DESIGN CHOICE (log entry 8), safe: the cause bit of the marks byte of READ ROW for a row that is not LOCKED.
R2 gives a cause only to a LOCKED row. -/
opaque Config.unlockedCauseBit : Nat → Bool

end Sys2Proof
end

