-- ==== Sys2Proof/Machine/State.lean ====
section
/-! DEFINITION. The state of the CX440, as plain data: every register, record, queue, counter, mode and pin level the
spec gives the part, and the queue of the commands that wait. INVENTORY.md lists each field with its rule.
A row record of R1 stands in two parts, by who writes it: `RowData` (the map, the soiling figures, the accounts and the
hold seconds) and `RowState` (the claims, the tracker state, the marks and the class); see log entry 12. -/

namespace Sys2Proof.Machine

open Sys2Proof

/-- Why a step stops. -/
inductive Fault where
  /-- Raised by a command whose hand-ons (R44, R69, R75, R168) have not ended within `cascadeFuel` hand-ons.
  Safe: the model stops where the part goes on (log entry 6). -/
  | cascadeBound
  deriving DecidableEq, Repr

/-- Why a step gives no meaning. -/
inductive Refusal where
  /-- Raised by an arm of exec that has no meaning yet. Safe: the model says nothing of that command. -/
  | notModelled (mnemonic : String)
  /-- Raised by UNKNOWN_REQUEST whose kind R182 takes by another case: such a frame is another command.
  Safe: the model says nothing of it (log entry 24). -/
  | notAnUnknownRequest
  deriving DecidableEq, Repr

/-! ## The row record (R1, R2) -/

/-- The seven tracker states, in the order of R21 and R187. -/
inductive Tracker where
  | tracking | holdPending | held | stowReleased | stowed | unstowWanted | faulted
  deriving DecidableEq, Repr

/-- The cause of the LOCKED mark (R2). -/
inductive LockCause where
  | plant | fleetReset
  deriving DecidableEq, Repr

/-- The part of a row record that the coordination rules write: claims, tracker state, marks, reservation, class. -/
structure RowState where
  holder       : Option RobotId
  occupant     : Option RobotId
  reservation  : Option Tag
  tracker      : Tracker
  faultNoted   : Bool
  locked       : Option LockCause
  overstay     : Bool
  stranded     : Bool
  restart      : Bool
  resumeWanted : Bool
  reservedBy   : Option RobotId
  cls          : Urgency
  deriving DecidableEq, Repr

/-- The part of a row record that the map, the arithmetic unit, the cleanings and the accounts write. -/
structure RowData where
  present     : Bool
  cradle      : Bool
  shuttle     : Option ShuttleId
  kc          : Nat
  ss          : Nat
  es          : Nat
  f           : Nat
  fPre        : Nat
  credit      : Nat
  lastCleaned : Option FarmSecond
  loss        : Nat
  recovered   : Nat
  saturated   : Bool
  holdSeconds : Nat
  deriving DecidableEq, Repr

/-- The last column of R1 for the fields of `RowState`. -/
def RowState.fresh : RowState :=
  { holder := none, occupant := none, reservation := none, tracker := .tracking, faultNoted := false, locked := none,
    overstay := false, stranded := false, restart := false, resumeWanted := false, reservedBy := none, cls := 0 }

/-- The last column of R1 for the fields of `RowData` at power-on. -/
def RowData.fresh : RowData :=
  { present := false, cradle := false, shuttle := none, kc := 4096, ss := 0, es := 0, f := 0, fPre := 0, credit := 0,
    lastCleaned := none, loss := 0, recovered := 0, saturated := false, holdSeconds := 0 }

/-! ## Parameters (R188) and the environment of an event -/

/-- The stored parameters, in the order of R188. -/
structure Params where
  lightFloor     : Nat
  smoothing      : Nat
  thr1           : Nat
  thr2           : Nat
  thr3           : Nat
  tiltPenalty    : Nat
  payback        : Nat
  cleaningHold   : Nat
  creditWindow   : Nat
  confirmTimeout : Nat
  holdLimit      : Nat
  roundLength    : Nat
  chargeFloor    : Nat
  resumeLevel    : Nat
  stepTimeout    : Nat
  pollInterval   : Nat
  factorA        : Nat
  factorB        : Nat
  watchGust      : Nat
  watchSustained : Nat
  parkGust       : Nat
  parkSustained  : Nat
  stowGust       : Nat
  stowSustained  : Nat
  parkDeadline   : Nat
  calmHoldoff    : Nat
  silenceLimit   : Nat
  bitPeriod      : Nat
  deriving DecidableEq, Repr

/-- The default column of R188. -/
def Params.default : Params :=
  { lightFloor := 200, smoothing := 3, thr1 := 82, thr2 := 164, thr3 := 287, tiltPenalty := 1229, payback := 604800,
    cleaningHold := 900, creditWindow := 96, confirmTimeout := 120, holdLimit := 2700, roundLength := 4,
    chargeFloor := 30, resumeLevel := 90, stepTimeout := 180, pollInterval := 2, factorA := 1958, factorB := 1958,
    watchGust := 120, watchSustained := 90, parkGust := 160, parkSustained := 120, stowGust := 200,
    stowSustained := 150, parkDeadline := 600, calmHoldoff := 1800, silenceLimit := 30, bitPeriod := 4 }

/-- What the rules of one event read and do not write: farm time, the parameters, and the `RowData` of every row. -/
structure Env where
  now    : FarmSecond
  params : Params
  data   : Vector RowData 256
  deriving DecidableEq, Repr

/-! ## Deadlines (R15) -/

/-- The kinds of deadline, each with its key. -/
inductive DeadlineKind where
  | holdConfirm (k : RobotId)
  | holdLimit (k : RobotId)
  | shuttleStep (s : ShuttleId)
  | parkDeadline
  | calmHoldoff
  deriving DecidableEq, Repr

structure Deadline where
  due  : FarmSecond
  kind : DeadlineKind
  deriving DecidableEq, Repr

/-! ## Robots (R42) and rounds (R98) -/

inductive RobotMode where
  | absent | idle | waitHold | onRow | waitTransfer | carried | braced | faulted
  deriving DecidableEq, Repr

inductive Location where
  | nowhere
  | rowEnd (r : RowId)
  | onRow (r : RowId)
  | carried (s : ShuttleId)
  | unknown
  deriving DecidableEq, Repr

inductive Order where
  | none | go (r : RowId) | exit | brace | unbrace | attend
  deriving DecidableEq, Repr

/-- The failure reasons of a transfer, in the order of R62. -/
inductive FailReason where
  | shuttleTimeout | shuttleFault | destLocked | lost | link | storm
  deriving DecidableEq, Repr

inductive RobotOutcome where
  | none | entryFailed | transferFailed (why : FailReason) | roundDone | roundDiscarded | parked | noPark
  deriving DecidableEq, Repr

inductive EntryState where
  | pending | active | done | skipped
  deriving DecidableEq, Repr

/-- The skip reasons, in the order of R187 (1 to 7). -/
inductive SkipReason where
  | holdTimeout | endBusy | queueFull | aborted | fault | discarded | ineligible
  deriving DecidableEq, Repr

structure Entry where
  row     : RowId
  state   : EntryState
  entered : Bool
  reason  : Option SkipReason
  deriving DecidableEq, Repr

/-- A round; its robot is the one whose stack holds the ROUND task. -/
structure Round where
  start   : RowId
  paused  : Bool
  entries : List Entry
  deriving DecidableEq, Repr

inductive RobotTask where
  | round (rd : Round)
  | charge
  | park
  deriving DecidableEq, Repr

inductive Standing where
  | none | safe | unparked
  deriving DecidableEq, Repr

/-- A robot record (R42) with the robot's park standing (R162). The stack's head is its top. -/
structure Robot where
  mode           : RobotMode
  location       : Location
  inGarage       : Bool
  battery        : Nat
  order          : Order
  outcome        : RobotOutcome
  transfer       : Option Tag
  stack          : List RobotTask
  parkWait       : Bool
  chargeWait     : Bool
  chargeDeferred : Bool
  faultPending   : Bool
  standing       : Standing
  deriving DecidableEq, Repr

/-- The power-on values of R42 and R162. -/
def Robot.fresh : Robot :=
  { mode := .absent, location := .nowhere, inGarage := false, battery := 0, order := .none, outcome := .none,
    transfer := none, stack := [], parkWait := false, chargeWait := false, chargeDeferred := false,
    faultPending := false, standing := .none }

/-! ## Transfers and shuttles (R62, R64) -/

/-- Where a transfer takes its robot from. -/
inductive Source where
  | rowEnd (r : RowId)
  | carried (s : ShuttleId)
  deriving DecidableEq, Repr

inductive Origin where
  | fleet | round | charge | park | recovery
  deriving DecidableEq, Repr

/-- The four steps that a command drives (R63). -/
inductive RunStep where
  | moveToSource | loading | moveToDest | unloading
  deriving DecidableEq, Repr

/-- The step of a transfer; an IN_DOUBT record keeps the step it stood in (R90). -/
inductive TransferStep where
  | queued
  | running (x : RunStep)
  | inDoubt (x : RunStep)
  deriving DecidableEq, Repr

/-- A transfer record. Its shuttle is the one whose queue holds it, and its priority is a view of its origin. -/
structure Transfer where
  tag    : Tag
  robot  : RobotId
  source : Source
  dest   : Dest
  origin : Origin
  step   : TransferStep
  deriving DecidableEq, Repr

inductive ShuttleMode where
  | offline | localUnknown | idle | moving | docking | faulted
  deriving DecidableEq, Repr

inductive ShuttleCause where
  | timeout | reported | loadUnknown
  deriving DecidableEq, Repr

/-- A shuttle record (R64), with the mark that the running step's command has completed (R71) and the last fault code
the link keeps for the shuttle (R83). -/
structure Shuttle where
  range       : Option (Bay × Bay)
  mode        : ShuttleMode
  /-- a row, the garage, or none for unknown -/
  position    : Option Dest
  load        : Option RobotId
  current     : Option Tag
  pollDue     : Option Nat
  cause       : Option ShuttleCause
  queue       : List Transfer
  commandSent : Bool
  lastFault   : Byte
  deriving DecidableEq, Repr

/-- The power-on values of R64, R71 and R83. -/
def Shuttle.fresh : Shuttle :=
  { range := none, mode := .offline, position := none, load := none, current := none, pollDue := none, cause := none,
    queue := [], commandSent := false, lastFault := 0 }

/-! ## The shuttle link (R82 to R87) -/

/-- The operations of a transaction with their data fields (R82). -/
inductive LinkOp where
  | move (target : RowId) (load : Option RobotId)
  | load (k : RobotId) (r : RowId)
  | unload (k : RobotId) (r : RowId)
  | garage (load : Option RobotId)
  | status
  deriving DecidableEq, Repr

/-- A transaction of the link queue. `counts` is set on a STATUS placed after the completion of the running step's
command, the only kind that completes a step (R71). -/
structure Transaction where
  op     : LinkOp
  counts : Bool
  deriving DecidableEq, Repr

/-- The transaction in flight (R85, R86), with the data bytes of its buffer and the link bit period it runs at (R82). -/
structure Flight where
  shuttle : ShuttleId
  txn     : Transaction
  buffer  : List Byte
  discard : Bool
  period  : Nat
  deriving DecidableEq, Repr

structure Link where
  enabled    : Bool
  queue      : Vector (Option Transaction) 4
  inFlight   : Option Flight
  lastServed : ShuttleId
  deriving DecidableEq, Repr

/-- The power-on values of R87. -/
def Link.fresh : Link :=
  { enabled := true, queue := Vector.replicate 4 none, inFlight := none, lastServed := 3 }

/-! ## Weather (R162) -/

inductive Weather where
  | start | calm | watch | park | stow | recover
  deriving DecidableEq, Repr

inductive Level where
  | none | watch | park | stow
  deriving DecidableEq, Repr

/-! ## The coordination state

`Block` holds all that the hold, robot, transfer, round and storm rules write in the events they share. -/

structure Block where
  deadlines      : List Deadline
  rows           : Vector RowState 256
  robots         : Vector Robot 24
  shuttles       : Vector Shuttle 4
  link           : Link
  weather        : Weather
  level          : Level
  stowd          : Bool
  deadlinePassed : Bool
  /-- the weather-changed flag of the plant attention set (R148) -/
  weatherChanged : Bool
  /-- the link-fault flag of the plant attention set (R148) -/
  linkFaultItem  : Bool
  deriving DecidableEq, Repr

def Block.fresh : Block :=
  { deadlines := [], rows := Vector.replicate 256 RowState.fresh, robots := Vector.replicate 24 Robot.fresh,
    shuttles := Vector.replicate 4 Shuttle.fresh, link := Link.fresh, weather := .start, level := .none,
    stowd := false, deadlinePassed := false, weatherChanged := false, linkFaultItem := false }

/-! ## Reports, banks, masts, ports -/

/-- A report record (R116). `next` counts pairs from 1. -/
structure Report where
  tag       : Byte
  pref      : Nat
  t         : Nat
  pairs     : List (RowId × BitVec 16)
  next      : Nat
  processed : Nat
  skipped   : Nat
  lowLight  : Bool
  reserved  : Bool
  deriving DecidableEq, Repr

/-- The fields that both period banks hold (R137). -/
structure Bank where
  loss         : Nat
  gain         : Nat
  recovered    : Nat
  holdCost     : Nat
  stormSeconds : Nat
  reports      : Nat
  lowLight     : Nat
  start        : FarmSecond
  saturated    : Bool
  deriving DecidableEq, Repr

/-- A bank opened at a farm second: every total and count 0, SATURATED clear (R142). -/
def Bank.opened (now : FarmSecond) : Bank :=
  { loss := 0, gain := 0, recovered := 0, holdCost := 0, stormSeconds := 0, reports := 0, lowLight := 0, start := now,
    saturated := false }

/-- The CLOSED bank (R137). -/
structure ClosedBank where
  bank  : Bank
  close : FarmSecond
  read  : Bool
  deriving DecidableEq, Repr

inductive Health where
  | healthy | faulted
  deriving DecidableEq, Repr

inductive MastCause where
  | silent | overrun
  deriving DecidableEq, Repr

/-- A mast record (R151). The ring count is the length of the ring. -/
structure MastRec where
  pulses   : Nat
  pending  : Option Nat
  lost     : Nat
  speed    : Nat
  ring     : List Nat
  sum      : Nat
  window   : List Nat
  gust     : Nat
  health   : Health
  cause    : Option MastCause
  silence  : Nat
  overrun  : Nat
  recovery : Nat
  deriving DecidableEq, Repr

/-- The power-on values of R151. -/
def MastRec.fresh : MastRec :=
  { pulses := 0, pending := none, lost := 0, speed := 0, ring := [], sum := 0, window := [], gust := 0,
    health := .healthy, cause := none, silence := 0, overrun := 0, recovery := 0 }

/-- A reply in a queue: header and payload (R184, R187). -/
structure Reply where
  tag     : Byte
  kind    : Byte
  outcome : Byte
  payload : List Byte
  deriving DecidableEq, Repr

/-- The state of one port (R181, R184). `shifted` is the model's record of the SDO output: the bytes shifted out in the
port's last frame, every later byte of that frame being 0 (log entry 20). -/
structure PortRec where
  replies   : List Reply
  refused   : Bool
  truncated : Bool
  shifted   : List Byte
  deriving DecidableEq, Repr

def PortRec.fresh : PortRec := { replies := [], refused := false, truncated := false, shifted := [] }

/-! ## The whole state -/

/-- The state of the CX440. -/
structure State where
  /-- the commands that wait, first in, first out -/
  pending   : List Instr
  /-- RESETn is asserted (R190) -/
  inReset   : Bool
  /-- the level of the CONTEND input (R81) -/
  contend   : Bool
  mapLoaded : Bool
  env       : Env
  blk       : Block
  plant     : PortRec
  tracker   : PortRec
  fleet     : PortRec
  inFlight  : Option Report
  waiting   : Option Report
  live      : Bank
  closed    : ClosedBank
  mastA     : MastRec
  mastB     : MastRec
  /-- the model's counter of free values used (log entry 8) -/
  freeSeed  : Nat
  deriving DecidableEq, Repr

/-- The environment at power-on (R10, R13, R188). -/
def Env.fresh : Env := { now := 0, params := Params.default, data := Vector.replicate 256 RowData.fresh }

/-- The machine right after the release of RESETn (R190). DESIGN CHOICE, unsafe (log entry 5): CONTEND is deasserted. -/
def State.reset : State :=
  { pending := [], inReset := false, contend := false, mapLoaded := false, env := Env.fresh, blk := Block.fresh,
    plant := PortRec.fresh, tracker := PortRec.fresh, fleet := PortRec.fresh, inFlight := none, waiting := none,
    live := Bank.opened 0, closed := { bank := Bank.opened 0, close := 0, read := true },
    mastA := MastRec.fresh, mastB := MastRec.fresh, freeSeed := 0 }

end Sys2Proof.Machine
end

