-- ==== Sys2Proof/Machine/Ops.lean ====
section
/-! DEFINITION. The named operations over the tables, the deadline list, the link queue and the ports.
Each cites the rule it follows; the families' meanings are written over these and never touch a table themselves. -/

namespace Sys2Proof.Machine

open Sys2Proof

/-! ## Tables -/

/-- The table with entry `i` changed by `g`. -/
def modifyAt {α : Type} {n : Nat} (t : Vector α n) (i : Fin n) (g : α → α) : Vector α n := t.set i (g t[i])

/-- The table with every entry changed by `g`, which sees its index. -/
def mapAll {α : Type} {n : Nat} (t : Vector α n) (g : Fin n → α → α) : Vector α n :=
  ⟨(List.zipWith g (List.finRange n) t.toList).toArray, by simp⟩

/-! ## The environment -/

/-- The `RowData` of a row. -/
def Env.row (e : Env) (r : RowId) : RowData := e.data[r]

/-- The environment with one row's `RowData` changed. -/
def Env.modRow (e : Env) (r : RowId) (g : RowData → RowData) : Env := { e with data := modifyAt e.data r g }

/-! ## Records of the block -/

def Block.row (b : Block) (r : RowId) : RowState := b.rows[r]
def Block.robot (b : Block) (k : RobotId) : Robot := b.robots[k]
def Block.shuttle (b : Block) (s : ShuttleId) : Shuttle := b.shuttles[s]

def Block.modRow (b : Block) (r : RowId) (g : RowState → RowState) : Block := { b with rows := modifyAt b.rows r g }
def Block.modRobot (b : Block) (k : RobotId) (g : Robot → Robot) : Block := { b with robots := modifyAt b.robots k g }
def Block.modShuttle (b : Block) (s : ShuttleId) (g : Shuttle → Shuttle) : Block :=
  { b with shuttles := modifyAt b.shuttles s g }
def Block.mapRows (b : Block) (g : RowId → RowState → RowState) : Block := { b with rows := mapAll b.rows g }
def Block.mapRobots (b : Block) (g : RobotId → Robot → Robot) : Block := { b with robots := mapAll b.robots g }

/-- The robots in ascending order. -/
def allRobots : List RobotId := List.finRange 24
/-- The shuttles in ascending order. -/
def allShuttles : List ShuttleId := List.finRange 4
/-- The rows in ascending order. -/
def allRows : List RowId := List.finRange 256

/-- A robot is enrolled when its state is anything but ABSENT (R42). -/
def Robot.enrolled (x : Robot) : Bool := x.mode != .absent

/-- Some robot record is in a state other than ABSENT (R7, R11). -/
def Block.anyEnrolled (b : Block) : Bool := allRobots.any fun k => (b.robot k).enrolled

/-- The weather state is PARK or STOW. -/
def Block.storm (b : Block) : Bool := b.weather == .park || b.weather == .stow

/-! ## The deadline list (R15 to R20) -/

/-- Time remaining: due time minus now, modulo 2^32 (R15). -/
def Deadline.remaining (now : FarmSecond) (d : Deadline) : Nat := (d.due - now).toNat

/-- For a robot key, the robot's other kind (R16, step 2). -/
def DeadlineKind.sibling : DeadlineKind → Option DeadlineKind
  | .holdConfirm k => some (.holdLimit k)
  | .holdLimit k => some (.holdConfirm k)
  | .shuttleStep _ | .parkDeadline | .calmHoldoff => none

/-- The entry is keyed by a robot or a shuttle (R17). -/
def DeadlineKind.fleetKey : DeadlineKind → Bool
  | .holdConfirm _ | .holdLimit _ | .shuttleStep _ => true
  | .parkDeadline | .calmHoldoff => false

/-- Two kinds are handed to the same block (R18). -/
def DeadlineKind.sameBlock : DeadlineKind → DeadlineKind → Bool
  | .holdConfirm _, .holdConfirm _ | .holdConfirm _, .holdLimit _ => true
  | .holdLimit _, .holdConfirm _ | .holdLimit _, .holdLimit _ => true
  | .shuttleStep _, .shuttleStep _ => true
  | .parkDeadline, .parkDeadline | .parkDeadline, .calmHoldoff => true
  | .calmHoldoff, .parkDeadline | .calmHoldoff, .calmHoldoff => true
  | _, _ => false

/-- Step 3 of R16: behind every entry with no more time remaining, before the first with more. -/
def insertDeadline (now : FarmSecond) (d : Deadline) : List Deadline → List Deadline
  | [] => [d]
  | x :: xs => if d.remaining now < x.remaining now then d :: x :: xs else x :: insertDeadline now d xs

/-- A cancellation (R17). -/
def Block.cancel (b : Block) (kind : DeadlineKind) : Block :=
  { b with deadlines := b.deadlines.filter fun d => d.kind != kind }

/-- An arming (R16). -/
def Block.arm (e : Env) (kind : DeadlineKind) (duration : Nat) (b : Block) : Block :=
  let kept := b.deadlines.filter fun d => d.kind != kind && some d.kind != kind.sibling
  { b with deadlines := insertDeadline e.now { due := e.now + BitVec.ofNat 32 duration, kind := kind } kept }

/-- Whether an entry of the kind and key stands. -/
def Block.armed (b : Block) (kind : DeadlineKind) : Bool := b.deadlines.any fun d => d.kind == kind

/-- Time remaining on an entry, 0 for none (R20, R186). -/
def Block.timeLeft (e : Env) (b : Block) (kind : DeadlineKind) : Nat :=
  match b.deadlines.find? fun d => d.kind == kind with
  | some d => d.remaining e.now
  | none => 0

/-- The entry at which the block of `kind` is next handed an expiry: its first entry whose time remaining is 0 (R18). -/
def Block.nextExpiry (e : Env) (b : Block) (kind : DeadlineKind) : Option Deadline :=
  b.deadlines.find? fun d => d.remaining e.now == 0 && kind.sameBlock d.kind

/-- The expiry of `kind` arises now: its entry is due and is the next that its block is handed (R18, R19). -/
def Block.expires (e : Env) (b : Block) (kind : DeadlineKind) : Bool :=
  match b.nextExpiry e kind with
  | some d => d.kind == kind
  | none => false

/-! ## The link queue (R84) -/

/-- Places a transaction for a shuttle, in place of a pending one; dropped while the link is FAULTED. -/
def Block.placeLink (b : Block) (s : ShuttleId) (op : LinkOp) (counts : Bool) : Block :=
  if b.link.enabled then { b with link := { b.link with queue := b.link.queue.set s (some ⟨op, counts⟩) } } else b

/-- Withdraws the pending transaction of a shuttle. -/
def Block.withdrawLink (b : Block) (s : ShuttleId) : Block :=
  { b with link := { b.link with queue := b.link.queue.set s none } }

/-- A step of a transfer is running on the shuttle: it is MOVING or DOCKING (R64). -/
def Shuttle.stepping (x : Shuttle) : Bool := x.mode == .moving || x.mode == .docking

/-- Places a STATUS of a shuttle. It counts for the running step when that step's command has completed (R71). -/
def Block.placeStatus (b : Block) (s : ShuttleId) : Block :=
  b.placeLink s .status ((b.shuttle s).stepping && (b.shuttle s).commandSent)

/-- Sets the discard mark when the transaction in flight is the shuttle's (R86). -/
def Block.discardFlight (b : Block) (s : ShuttleId) : Block :=
  match b.link.inFlight with
  | some x => if x.shuttle = s then { b with link := { b.link with inFlight := some { x with discard := true } } } else b
  | none => b

/-! ## Rows: the terms of R5 -/

/-- A row end is free. -/
def RowState.endFree (x : RowState) : Bool := x.occupant.isNone && x.reservation.isNone && x.holder.isNone

/-- The row is reserved by a robot other than `k`. -/
def RowState.reservedByOther (x : RowState) (k : RobotId) : Bool :=
  match x.reservedBy with
  | some j => j != k
  | none => false

/-- A free, unreserved, unlocked end. -/
def RowState.isOpen (x : RowState) : Bool := x.endFree && x.reservedBy.isNone && x.locked.isNone

/-- The holder of the row, when it is on the surface (R5, R30). -/
def Block.surfaceHolder (b : Block) (r : RowId) : Option RobotId :=
  match (b.row r).holder with
  | some k => if (b.robot k).location = .onRow r then some k else none
  | none => none

/-- The row that robot `k` holds. -/
def Block.heldRow (b : Block) (k : RobotId) : Option RowId :=
  allRows.find? fun r => (b.row r).holder == some k

/-- The shuttle whose bay range contains the row's bay (R3). -/
def Block.rangeShuttle (b : Block) (r : RowId) : Option ShuttleId :=
  allShuttles.find? fun s =>
    match (b.shuttle s).range with
    | some (lo, hi) => decide (lo.val ≤ r.val / 16 ∧ r.val / 16 ≤ hi.val)
    | none => false

/-- The row lies in the shuttle's current bay range. -/
def Shuttle.serves (x : Shuttle) (r : RowId) : Bool :=
  match x.range with
  | some (lo, hi) => decide (lo.val ≤ r.val / 16 ∧ r.val / 16 ≤ hi.val)
  | none => false

/-! ## Numbers -/

/-- Clamp a value to a range (00_scope.md, Terms). -/
def clamp (lo hi v : Nat) : Nat := if v < lo then lo else if hi < v then hi else v

/-- A saturating addition: the sum, and whether it would have passed the largest value (R132, R140). -/
def addSat (top a d : Nat) : Nat × Bool := if a + d ≤ top then (a + d, false) else (top, true)

/-- The largest value of a 48-bit accumulator. -/
def top48 : Nat := 2 ^ 48 - 1

/-- The distance between two rows (R57, R93, R170). -/
def rowDistance (a b : RowId) : Nat := if a.val ≤ b.val then b.val - a.val else a.val - b.val

/-- Of the rows listed in ascending order, the one nearest `p`, the lower of two at equal distance. -/
def nearestRow (p : RowId) : List RowId → Option RowId
  | [] => none
  | c :: cs =>
    match nearestRow p cs with
    | none => some c
    | some d => if rowDistance c p ≤ rowDistance d p then some c else some d

/-! ## Ports and replies -/

def State.port (s : State) : Port → PortRec
  | .plant => s.plant
  | .tracker => s.tracker
  | .fleet => s.fleet

def State.modPort (s : State) (p : Port) (g : PortRec → PortRec) : State :=
  match p with
  | .plant => { s with plant := g s.plant }
  | .tracker => { s with tracker := g s.tracker }
  | .fleet => { s with fleet := g s.fleet }

/-- Whether a report slot holds a reservation (R116, R119). -/
def Report.holdsPlace : Option Report → Nat
  | some x => if x.reserved then 1 else 0
  | none => 0

/-- The places reserved in a port's reply queue: on the plant port, one for each report with its reserved flag set. -/
def State.reservedPlaces (s : State) : Port → Nat
  | .plant => Report.holdsPlace s.inFlight + Report.holdsPlace s.waiting
  | .tracker | .fleet => 0

/-- The free places of a port's reply queue: those that hold no reply and no reservation (R182, R184). -/
def State.freePlaces (s : State) (p : Port) : Nat := 4 - ((s.port p).replies.length + s.reservedPlaces p)

/-- The outcome codes of R186. -/
inductive Code where
  | ok | accepted | busy | full | noMap | badRow | badRobot | badValue | notHere | state
  | heldBy | reserved | endBusy | noRoute | sameRow | weather | battery | tooLate | noWork
  deriving DecidableEq, Repr

def Code.byte : Code → Byte
  | .ok => 0 | .accepted => 1 | .busy => 2 | .full => 3 | .noMap => 4 | .badRow => 5 | .badRobot => 6 | .badValue => 7
  | .notHere => 8 | .state => 9 | .heldBy => 10 | .reserved => 11 | .endBusy => 12 | .noRoute => 13 | .sameRow => 14
  | .weather => 15 | .battery => 16 | .tooLate => 17 | .noWork => 18

/-- What a request answers: an outcome and a payload. A refusal carries an empty payload but for HELD_BY (R186). -/
structure Answer where
  code    : Code
  payload : List Byte := []
  deriving DecidableEq, Repr

/-- Places a reply at the tail of a port's queue (R184). -/
def State.reply (s : State) (f : Frame) (kind : Byte) (a : Answer) : State :=
  s.modPort f.port fun p =>
    { p with replies := p.replies ++ [{ tag := f.tag, kind := kind, outcome := a.code.byte, payload := a.payload }] }

/-- Sets the two sticky frame bits of a port's status byte (R181, R182). -/
def State.frameBits (s : State) (p : Port) (refused truncated : Bool) : State :=
  s.modPort p fun x => { x with refused := refused, truncated := truncated }

/-- The port interface's own checks of R182, case 6, in their order; none when the request goes to its owner. -/
def portCheck (q : Request) (f : Frame) (s : State) : Option Code :=
  if 250 < f.len.toNat then some .badValue
  else if !q.on f.port then some .notHere
  else if q.row && !s.mapLoaded then some .noMap
  else
    match q.len with
    | some n => if f.len.toNat = n then none else some .badValue
    | none => none

end Sys2Proof.Machine
end

