-- ==== Sys2Proof/Machine/Flags.lean ====
section
/-! DEFINITION. What the part derives from its records: the urgency class and its maps (R96, R97, R131), the three
attention sets (R37, R47, R148), the status byte (R181) and the output lines (R81, R162, R185, R190). -/

namespace Sys2Proof.Machine

open Sys2Proof

/-! ## The class test (R131) and the urgency maps (R96) -/

/-- The conditions that give a row class 0 whatever its figures (R97; R131, step 4). -/
def RowState.barred (x : RowState) : Bool :=
  x.locked.isSome || x.stranded || x.tracker == .faulted || x.faultNoted

/-- The merit test of R131, step 3. -/
def merit (p : Params) (ss es : Nat) : Bool :=
  decide ((es * p.tiltPenalty + 2048) / 4096 * p.cleaningHold ≤ ss * p.payback)

/-- Steps 1 and 2 of R131: how many of the effective thresholds f meets or exceeds. -/
def thresholdCount (p : Params) (f : Nat) : Urgency :=
  let t1 := p.thr1
  let t2 := max p.thr2 t1
  let t3 := max p.thr3 t2
  if t3 ≤ f then 3 else if t2 ≤ f then 2 else if t1 ≤ f then 1 else 0

/-- The class test of R131 on a row's figures, its marks and its tracker state. -/
def classTest (p : Params) (d : RowData) (x : RowState) : Urgency :=
  if x.barred then 0 else if merit p d.ss d.es then thresholdCount p d.f else 0

/-- The class set anew of a row (R97). -/
def Block.classAnew (e : Env) (b : Block) (r : RowId) : Block :=
  b.modRow r fun x => { x with cls := if (e.row r).present then classTest e.params (e.row r) x else 0 }

/-- The row stands in the urgency map of class `c` (R3, R96): the maps are a view of the class field. -/
def inUrgencyMap (e : Env) (b : Block) (c : Urgency) (r : RowId) : Bool :=
  (e.row r).present && (b.row r).cls == c

/-! ## The tracker attention set (R37) -/

/-- The wanted actions, with their codes of R187. -/
inductive Action where
  | hold | stow | unstow | resume | stranded
  deriving DecidableEq, Repr

def Action.byte : Action → Byte
  | .hold => 1 | .stow => 2 | .unstow => 3 | .resume => 4 | .stranded => 5

/-- The first line of R37 that a row meets. -/
def RowState.action (x : RowState) : Option Action :=
  match x.tracker with
  | .held => if x.stranded then some .stranded else none
  | .holdPending => some .hold
  | .stowReleased => some .stow
  | .unstowWanted => some .unstow
  | .tracking => if x.resumeWanted then some .resume else none
  | .stowed | .faulted => none

/-- The tracker attention set: every present row with an action, in ascending row order. -/
def trackerAttention (e : Env) (b : Block) : List (RowId × Action) :=
  allRows.filterMap fun r => if (e.row r).present then (b.row r).action.map fun a => (r, a) else none

/-! ## The fleet attention set (R47) -/

/-- The robot is in the fleet attention set. -/
def Robot.wanted (x : Robot) : Bool := x.enrolled && (x.order != .none || x.outcome != .none)

def fleetAttention (b : Block) : List RobotId := allRobots.filter fun k => (b.robot k).wanted

/-! ## The plant attention set (R148) -/

/-- The reply is a completion reply of an OUTPUT REPORT: its kind with the outcome OK (R184). -/
def Reply.isCompletion (x : Reply) : Bool := x.kind == Request.outputReport.kind && x.outcome == Code.ok.byte

/-- The number of present rows LOCKED with cause FLEET_RESET. -/
def fleetResetLocks (e : Env) (b : Block) : Nat :=
  (allRows.filter fun r => (e.row r).present && (b.row r).locked == some .fleetReset).length

/-- The five items of R148. -/
structure PlantItems where
  closedUnread   : Bool
  reportComplete : Bool
  weatherChanged : Bool
  linkFault      : Bool
  fleetReset     : Bool
  deriving DecidableEq, Repr

def State.plantItems (s : State) : PlantItems :=
  { closedUnread := !s.closed.read
    reportComplete := s.plant.replies.any Reply.isCompletion
    weatherChanged := s.blk.weatherChanged
    linkFault := s.blk.linkFaultItem
    fleetReset := decide (0 < fleetResetLocks s.env s.blk) }

def PlantItems.any (x : PlantItems) : Bool :=
  x.closedUnread || x.reportComplete || x.weatherChanged || x.linkFault || x.fleetReset

/-! ## Status byte and outputs -/

/-- The port's attention set is not empty (R181, bit 6; R185). -/
def State.attention (s : State) : Port → Bool
  | .plant => s.plantItems.any
  | .tracker => !(trackerAttention s.env s.blk).isEmpty
  | .fleet => !(fleetAttention s.blk).isEmpty

/-- At least one report slot is empty (R181, bit 3). -/
def State.slotFree (s : State) : Bool := s.inFlight.isNone || s.waiting.isNone

/-- Bits 1..0 of the status byte (R181). -/
def portIdentity : Port → Nat
  | .plant => 1 | .tracker => 2 | .fleet => 3

/-- The status byte of R181. -/
def State.statusByte (s : State) (p : Port) : Byte :=
  BitVec.ofNat 8
    ((if (s.port p).replies.isEmpty then 0 else 128) + (if s.attention p then 64 else 0)
      + (if (s.port p).refused then 32 else 0) + (if (s.port p).truncated then 16 else 0)
      + (if p = .plant ∧ s.slotFree then 8 else 0) + portIdentity p)

/-- The ATN output of a port (R185); driven low while RESETn is asserted. -/
def State.atn (s : State) (p : Port) : Bool := !s.inReset && s.attention p

/-- The STOWD output (R162, R190). -/
def State.stowdPin (s : State) : Bool := !s.inReset && s.blk.stowd

/-- The bits of a byte in the order they are sent, most significant first (R82, R180). -/
def byteBits (x : Byte) : List Bool := [7, 6, 5, 4, 3, 2, 1, 0].map fun i => x.getLsbD i

/-- The SDO output of a port at a bit of its last frame, the bits of a last byte that is not whole among them, while its SEL
is low or high; none is high-impedance (R180, R190). Between two commands of a port SEL is high (log entry 20). -/
def State.sdo (s : State) (p : Port) (selLow : Bool) (bit : Nat) : Option Bool :=
  if s.inReset || !selLow then none else some (((s.port p).shifted.flatMap byteBits).getD bit false)

/-- What drives a link line (R81). -/
inductive LineDrive where
  | released | low | high | clocked | byPart | byPartThenShuttle
  deriving DecidableEq, Repr

structure LinkLines where
  clk : LineDrive
  dat : LineDrive
  sel : Vector LineDrive 4
  deriving DecidableEq, Repr

/-- The lines of the shuttle link (R81; R190 while RESETn is asserted). -/
def State.linkLines (s : State) : LinkLines :=
  if s.inReset || !s.blk.link.enabled then
    { clk := .released, dat := .released, sel := Vector.replicate 4 .released }
  else
    match s.blk.link.inFlight with
    | none => { clk := .low, dat := .released, sel := Vector.replicate 4 .high }
    | some x =>
      { clk := .clocked
        dat := if x.txn.op = .status then .byPartThenShuttle else .byPart
        sel := (Vector.replicate 4 LineDrive.high).set x.shuttle .low }

end Sys2Proof.Machine
end

