-- ==== Sys2Proof/Machine/Operands.lean ====
section
/-! DEFINITION. How arguments are read from a frame and how reply fields are written (R186, R187). -/

namespace Sys2Proof.Machine

open Sys2Proof

/-! ## Arguments -/

/-- A robot argument: none outside 0..23. -/
def robotArg (x : Byte) : Option RobotId := if h : x.toNat < 24 then some ⟨x.toNat, h⟩ else none
/-- A shuttle argument: none outside 0..3. -/
def shuttleArg (x : Byte) : Option ShuttleId := if h : x.toNat < 4 then some ⟨x.toNat, h⟩ else none
/-- A bay argument: none outside 0..15. -/
def bayArg (x : Byte) : Option Bay := if h : x.toNat < 16 then some ⟨x.toNat, h⟩ else none
/-- A row byte: every value is a row number. -/
def rowArg (x : Byte) : RowId := ⟨x.toNat, x.isLt⟩

/-! ## Fields of a reply, most significant byte first (R186) -/

def byteOf (n : Nat) : Byte := BitVec.ofNat 8 n

/-- `count` bytes of a number, most significant first. -/
def bytesOf : Nat → Nat → List Byte
  | 0, _ => []
  | count + 1, n => byteOf (n / 256 ^ count) :: bytesOf count n

def flagByte (x : Bool) : Byte := if x then 1 else 0

def optByte {n : Nat} : Option (Fin n) → Byte
  | some x => byteOf x.val
  | none => 0xFF

def Tracker.place : Tracker → Nat
  | .tracking => 0 | .holdPending => 1 | .held => 2 | .stowReleased => 3 | .stowed => 4 | .unstowWanted => 5
  | .faulted => 6

def RobotMode.place : RobotMode → Nat
  | .absent => 0 | .idle => 1 | .waitHold => 2 | .onRow => 3 | .waitTransfer => 4 | .carried => 5 | .braced => 6
  | .faulted => 7

def FailReason.place : FailReason → Nat
  | .shuttleTimeout => 0 | .shuttleFault => 1 | .destLocked => 2 | .lost => 3 | .link => 4 | .storm => 5

def Standing.place : Standing → Nat
  | .none => 0 | .safe => 1 | .unparked => 2

def Origin.place : Origin → Nat
  | .fleet => 0 | .round => 1 | .charge => 2 | .park => 3 | .recovery => 4

/-- Priority PARK for origins PARK and RECOVERY, NORMAL for the others (R62). -/
def Origin.parkPriority : Origin → Bool
  | .park | .recovery => true
  | .fleet | .round | .charge => false

def RunStep.place : RunStep → Nat
  | .moveToSource => 1 | .loading => 2 | .moveToDest => 3 | .unloading => 4

def ShuttleMode.place : ShuttleMode → Nat
  | .offline => 0 | .localUnknown => 1 | .idle => 2 | .moving => 3 | .docking => 4 | .faulted => 5

/-- The place in the list of R64; none stands last (log entry 11). -/
def shuttleCausePlace : Option ShuttleCause → Nat
  | some .timeout => 0 | some .reported => 1 | some .loadUnknown => 2 | none => 3

/-- The place in the list of R151; none stands last (log entry 11). -/
def mastCausePlace : Option MastCause → Nat
  | some .silent => 0 | some .overrun => 1 | none => 2

def Weather.place : Weather → Nat
  | .start => 0 | .calm => 1 | .watch => 2 | .park => 3 | .stow => 4 | .recover => 5

/-- The place in the list of R162, which is also the level's rank (R163). -/
def Level.place : Level → Nat
  | .none => 0 | .watch => 1 | .park => 2 | .stow => 3

def Health.place : Health → Nat
  | .healthy => 0 | .faulted => 1

def EntryState.place : EntryState → Nat
  | .pending => 0 | .active => 1 | .done => 2 | .skipped => 3

def SkipReason.place : SkipReason → Nat
  | .holdTimeout => 1 | .endBusy => 2 | .queueFull => 3 | .aborted => 4 | .fault => 5 | .discarded => 6
  | .ineligible => 7

def Location.bytes : Location → List Byte
  | .nowhere => [0, 0xFF]
  | .rowEnd r => [1, byteOf r.val]
  | .onRow r => [2, byteOf r.val]
  | .carried s => [3, byteOf s.val]
  | .unknown => [4, 0xFF]

def Order.bytes : Order → List Byte
  | .none => [0, 0xFF]
  | .go r => [1, byteOf r.val]
  | .exit => [2, 0xFF]
  | .brace => [3, 0xFF]
  | .unbrace => [4, 0xFF]
  | .attend => [5, 0xFF]

def RobotOutcome.bytes : RobotOutcome → List Byte
  | .none => [0, 0xFF]
  | .entryFailed => [1, 0xFF]
  | .transferFailed why => [2, byteOf why.place]
  | .roundDone => [3, 0xFF]
  | .roundDiscarded => [4, 0xFF]
  | .parked => [5, 0xFF]
  | .noPark => [6, 0xFF]

def Source.bytes : Source → List Byte
  | .rowEnd r => [0, byteOf r.val]
  | .carried s => [1, byteOf s.val]

def destBytes : Dest → List Byte
  | .rowEnd r => [0, byteOf r.val]
  | .garage => [2, 0xFF]

def TransferStep.bytes : TransferStep → List Byte
  | .queued => [0, 0xFF]
  | .running x => [byteOf x.place, 0xFF]
  | .inDoubt x => [5, byteOf x.place]

def positionByte : Option Dest → Byte
  | some (.rowEnd r) => byteOf r.val
  | some .garage => 0xFE
  | none => 0xFF

def rangeBytes : Option (Bay × Bay) → List Byte
  | some (lo, hi) => [byteOf lo.val, byteOf hi.val]
  | none => [0xFF, 0xFF]

/-! ## Layouts (R187) -/

/-- The second byte of a round entry: state in bits 1..0, entered in bit 2, skip reason in bits 5..3. -/
def Entry.flags (x : Entry) : Byte :=
  byteOf (x.state.place + (if x.entered then 4 else 0)
    + 8 * (match x.reason with | some w => w.place | none => 0))

def Round.bytes (rd : Round) : List Byte :=
  [byteOf rd.start.val, flagByte rd.paused, byteOf rd.entries.length]
    ++ rd.entries.flatMap fun x => [byteOf x.row.val, x.flags]

def RobotTask.bytes : RobotTask → List Byte
  | .round rd => 0 :: rd.bytes
  | .charge => [1]
  | .park => [2]

/-- The marks byte of READ ROW; `cause` is the value of bit 1 for a row that is not LOCKED. -/
def RowState.marksByte (x : RowState) (cause : Bool) : Byte :=
  byteOf ((if x.locked.isSome then 1 else 0)
    + (match x.locked with
       | some .plant => 0
       | some .fleetReset => 2
       | none => if cause then 2 else 0)
    + (if x.overstay then 4 else 0) + (if x.stranded then 8 else 0) + (if x.restart then 16 else 0)
    + (if x.resumeWanted then 32 else 0))

/-- The 42 bytes of READ ROW (R187). `cleaned` fills offset 24 for a row never cleaned. -/
def rowBytes (r : RowId) (d : RowData) (x : RowState) (cleaned : FarmSecond) (cause : Bool) : List Byte :=
  [byteOf r.val, byteOf ((if d.present then 1 else 0) + (if d.cradle then 2 else 0)), optByte d.shuttle]
    ++ bytesOf 2 d.kc
    ++ [optByte x.holder, optByte x.occupant, optByte x.reservation,
        byteOf (x.tracker.place + (if x.faultNoted then 128 else 0)), x.marksByte cause, optByte x.reservedBy]
    ++ bytesOf 3 d.ss ++ bytesOf 3 d.es ++ bytesOf 2 d.f ++ [byteOf x.cls.val] ++ bytesOf 2 d.fPre
    ++ [byteOf d.credit,
        byteOf ((if d.lastCleaned.isSome then 1 else 0) + (if d.saturated then 2 else 0))]
    ++ bytesOf 4 (d.lastCleaned.getD cleaned).toNat ++ bytesOf 6 d.loss ++ bytesOf 6 d.recovered
    ++ bytesOf 2 d.holdSeconds

/-- READ ROBOT (R49, R162): the fields of R42 but the stack, then the tasks with their count, the time remaining on the
robot's deadline, and the park standing (log entry 10). -/
def robotBytes (x : Robot) (timeLeft : Nat) : List Byte :=
  [byteOf x.mode.place] ++ x.location.bytes ++ [flagByte x.inGarage, byteOf x.battery] ++ x.order.bytes
    ++ x.outcome.bytes ++ [optByte x.transfer, flagByte x.parkWait, flagByte x.chargeWait, flagByte x.chargeDeferred,
        flagByte x.faultPending]
    ++ [byteOf x.stack.length] ++ x.stack.flatMap RobotTask.bytes ++ bytesOf 2 timeLeft ++ [byteOf x.standing.place]

/-- One record of READ SHUTTLE's queue (R80). -/
def Transfer.bytes (t : Transfer) : List Byte :=
  [byteOf t.tag.val, byteOf t.robot.val] ++ t.source.bytes ++ destBytes t.dest
    ++ [byteOf t.origin.place, flagByte t.origin.parkPriority] ++ t.step.bytes

/-- READ SHUTTLE (R80, R87): the fields of R64 but the queue, the time remaining on the step's deadline, the queue with
its count, then the link fields (log entry 10). -/
def shuttleBytes (x : Shuttle) (timeLeft : Nat) (linkFaulted contend : Bool) : List Byte :=
  rangeBytes x.range ++ [byteOf x.mode.place, positionByte x.position, optByte x.load, optByte x.current,
      byteOf (x.pollDue.getD 0), byteOf (shuttleCausePlace x.cause)]
    ++ bytesOf 2 timeLeft ++ [byteOf x.queue.length] ++ x.queue.flatMap Transfer.bytes
    ++ [flagByte linkFaulted, flagByte contend, x.lastFault]

/-- The bytes of a reply as a fetch shifts them out (R184, R187). -/
def Reply.bytes (x : Reply) : List Byte := [x.tag, x.kind, x.outcome, byteOf x.payload.length] ++ x.payload

/-- The energy totals and counts of a bank, in the order of R137. -/
def Bank.bytes (x : Bank) : List Byte :=
  bytesOf 6 x.loss ++ bytesOf 6 x.gain ++ bytesOf 6 x.recovered ++ bytesOf 6 x.holdCost ++ bytesOf 4 x.stormSeconds
    ++ bytesOf 2 x.reports ++ bytesOf 2 x.lowLight ++ bytesOf 4 x.start.toNat

/-- The plant attention set as READ LIVE and READ PERIOD carry it (R149). -/
def State.plantItemBytes (s : State) : List Byte :=
  let x := s.plantItems
  [flagByte x.closedUnread, flagByte x.reportComplete, flagByte x.weatherChanged, flagByte x.linkFault,
    flagByte x.fleetReset] ++ bytesOf 2 (fleetResetLocks s.env s.blk)

/-! ## Checks shared by requests -/

/-- Goes on with a present row; otherwise BAD_ROW (R6, step 2). -/
def State.onRow {α : Type} (s : State) (r : RowId) (no : Code → α) (yes : α) : α :=
  if (s.env.row r).present then yes else no .badRow

/-- Goes on with a robot argument; otherwise BAD_ROBOT. -/
def onRobot {α : Type} (robot : Byte) (no : Code → α) (yes : RobotId → α) : α :=
  match robotArg robot with
  | some k => yes k
  | none => no .badRobot

end Sys2Proof.Machine
end

