-- ==== Sys2Proof/Machine/HandOn.lean ====
section
/-! DEFINITION. The hand-ons of an event, and the rounds' settling, which every family shares.
The rules of one event call one another: an exit brings a robot to rest, its task asks for a transfer, the shuttle is
offered work, another record fails there, its robot is handed on. Each such call is a value of `HandOn`. A rule changes
the block and answers the hand-ons that follow it, in order; Cascade.lean takes them one at a time, each with its own
hand-ons before the ones that were waiting, so that their order is the order of the rules' calls (log entry 7). -/

namespace Sys2Proof.Machine

open Sys2Proof

/-- What a rule asks of another within one event. -/
inductive HandOn where
  /-- the robot comes to rest (R44) -/
  | rest (k : RobotId)
  /-- the top task is given the robot (R44, step 2; R59) -/
  | giveTop (k : RobotId)
  /-- a CHARGE task on top: the pop test, and then the charge plan (R57, R58) -/
  | chargeTop (k : RobotId)
  /-- the CHARGE push test of a status report (R56) -/
  | chargePush (k : RobotId)
  /-- the CHARGE pop test of a status report (R58) -/
  | chargePop (k : RobotId)
  /-- the retry of the charge plan at a DONE (R57) -/
  | chargeRetry (k : RobotId)
  /-- the robot is handed to its round (R104) -/
  | handRound (k : RobotId)
  /-- the park plan of one robot (R169) -/
  | planRobot (k : RobotId)
  /-- the robot is to be planned alone, unless the event makes a pass (R168) -/
  | wantPlan (k : RobotId)
  /-- a pass of the park plan (R168) -/
  | pass
  /-- a pass is to be made at the end of the event (R168) -/
  | wantPass
  /-- the shuttle is offered work (R69) -/
  | offer (s : ShuttleId)
  /-- offers to the shuttle wait (R67; parts 2 to 4 of R73) -/
  | holdOffers (s : ShuttleId)
  /-- offers wait no more (part 5 of R73) -/
  | releaseOffers
  /-- the record with the tag, if it stands QUEUED, fails with the reason (R75) -/
  | failRecord (s : ShuttleId) (t : Tag) (why : FailReason)
  /-- a PARK task is pushed for every enrolled robot that holds none (R167, part 3) -/
  | pushParks
  /-- the stow release of every present row (R167, part 4; R175, part 3) -/
  | releaseRows
  /-- STOWD is asserted (R175, part 2) -/
  | assertStowd
  /-- the STRANDED marks of STOW entry (R175, part 4) -/
  | strandRows
  /-- the park deadline takes one robot (R172) -/
  | deadlineRobot (k : RobotId)
  /-- every park wait flag is cleared (R172) -/
  | clearParkWaits
  /-- CALM entry takes one robot (R178) -/
  | calmRobot (k : RobotId)
  /-- the test of R177 -/
  | recoverTest
  deriving DecidableEq, Repr

/-- A block with the hand-ons that follow. -/
abbrev Handed := Block × List HandOn

/-! ## Robots -/

def Block.setOutcome (b : Block) (k : RobotId) (x : RobotOutcome) : Block := b.modRobot k fun z => { z with outcome := x }
def Block.setOrder (b : Block) (k : RobotId) (x : Order) : Block := b.modRobot k fun z => { z with order := x }

/-- The row at whose end the robot stands IDLE (R44). -/
def Robot.idleAt (x : Robot) : Option RowId :=
  match x.mode, x.location with
  | .idle, .rowEnd r => some r
  | _, _ => none

/-- The row on whose surface the robot is ON_ROW (R29, R111). -/
def Robot.ridingOn (x : Robot) : Option RowId :=
  match x.mode, x.location with
  | .onRow, .onRow r => some r
  | _, _ => none

def Robot.holdsPark (x : Robot) : Bool := x.stack.contains .park
def Robot.holdsCharge (x : Robot) : Bool := x.stack.contains .charge

/-! ## Rounds -/

def RobotTask.isRound : RobotTask → Bool
  | .round _ => true
  | .charge | .park => false

/-- The round that the robot's ROUND task carries (R98). -/
def Robot.round (x : Robot) : Option Round :=
  x.stack.findSome? fun t =>
    match t with
    | .round rd => some rd
    | .charge | .park => none

/-- The ROUND task is on top. -/
def Robot.roundOnTop (x : Robot) : Bool :=
  match x.stack with
  | t :: _ => t.isRound
  | [] => false

/-- The stack with its ROUND task carrying `rd`. -/
def setRound (rd : Round) (stack : List RobotTask) : List RobotTask :=
  stack.map fun t => if t.isRound then .round rd else t

/-- The stack without its ROUND task. -/
def dropRound (stack : List RobotTask) : List RobotTask := stack.filter fun t => !t.isRound

/-- The entry is PENDING or ACTIVE. -/
def Entry.isOpen (x : Entry) : Bool := x.state == .pending || x.state == .active

/-- No entry is PENDING or ACTIVE (R114). -/
def Round.complete (rd : Round) : Bool := rd.entries.all fun x => !x.isOpen

/-- The entry settled: DONE, or SKIPPED with a reason; its entered flag is cleared. -/
def Entry.settled (x : Entry) (st : EntryState) (why : Option SkipReason) : Entry :=
  { x with state := st, entered := false, reason := why }

/-- The round's entries that `which` picks, changed by `g`. -/
def Round.mapEntries (rd : Round) (which : Entry → Bool) (g : Entry → Entry) : Round :=
  { rd with entries := rd.entries.map fun x => if which x then g x else x }

/-- The reservation of a row is released (R99). -/
def Block.unreserve (b : Block) (r : RowId) : Block := b.modRow r fun x => { x with reservedBy := none }

/-- Completion (R114): with no open entry the ROUND task leaves the stack and the outcome becomes ROUND_DONE. When it was
on top, the new top is given the robot (R59). -/
def Block.finishRound (b : Block) (k : RobotId) : Handed :=
  match (b.robot k).round with
  | none => (b, [])
  | some rd =>
    if rd.complete then
      ((b.modRobot k fun x => { x with stack := dropRound x.stack, outcome := .roundDone }),
        if (b.robot k).roundOnTop then [.giveTop k] else [])
    else (b, [])

/-- Settles the entry of robot `k`'s round for row `r` that `which` admits, if there is one: the entry, the row's
reservation, and the round's completion. -/
def Block.settleEntry (b : Block) (k : RobotId) (r : RowId) (which : Entry → Bool) (st : EntryState)
    (why : Option SkipReason) : Handed :=
  match (b.robot k).round with
  | none => (b, [])
  | some rd =>
    if rd.entries.any fun x => x.row == r && which x then
      let rd' := rd.mapEntries (fun x => x.row == r && which x) (fun x => x.settled st why)
      ((b.modRobot k fun x => { x with stack := setRound rd' x.stack }).unreserve r).finishRound k
    else (b, [])

/-- Releases the rows of a round's open entries (R54, R99). -/
def Block.releaseOpen (b : Block) (rd : Round) : Block :=
  (rd.entries.filter Entry.isOpen).foldl (fun c x => c.unreserve x.row) b

end Sys2Proof.Machine
end

