-- ==== Sys2Proof/Machine/HoldRules.lean ====
section
/-! DEFINITION. The hold controller's rules over one row: claim, return state, stow release, unstow, resume (chapter 2). -/

namespace Sys2Proof.Machine

open Sys2Proof

/-- The return state of a row whose hold has ended (R26). In RECOVER the row released for stow is at once resumed, so the
effect is that of START, CALM and WATCH. -/
def RowState.toReturn (w : Weather) (x : RowState) : RowState :=
  if x.faultNoted then { x with tracker := .faulted, faultNoted := false, resumeWanted := false, cls := 0 }
  else
    match w with
    | .park | .stow => { x with tracker := .stowReleased, resumeWanted := false }
    | .start | .calm | .watch | .recover => { x with tracker := .tracking, resumeWanted := true }

/-- The stow release of R32; `braced` says that the row's holder is BRACED. -/
def RowState.toRelease (braced : Bool) (x : RowState) : RowState :=
  match x.tracker with
  | .tracking => if x.holder.isNone then { x with tracker := .stowReleased, resumeWanted := false } else x
  | .held => if braced then { x with tracker := .stowReleased } else x
  | .unstowWanted => if x.holder.isNone || braced then { x with tracker := .stowed } else x
  | .holdPending | .stowReleased | .stowed | .faulted => x

/-- The unstow request (R34). -/
def RowState.toUnstow (x : RowState) : RowState :=
  if x.tracker = .stowed then { x with tracker := .unstowWanted } else x

/-- The recovery resume (R35). -/
def RowState.toResume (x : RowState) : RowState :=
  if x.tracker = .stowReleased ∧ x.holder = none then { x with tracker := .tracking, resumeWanted := true } else x

/-- The return to the hold at UNBRACED (R35). -/
def RowState.toHold (x : RowState) : RowState :=
  if x.tracker = .stowReleased then { x with tracker := .held } else x

/-- The STRANDED mark is set and the row moves to urgency map 0 (R96, R169). -/
def RowState.strand (x : RowState) : RowState := { x with stranded := true, cls := 0 }

/-- The row's holder is BRACED. -/
def Block.holderBraced (b : Block) (x : RowState) : Bool :=
  match x.holder with
  | some k => (b.robot k).mode == .braced
  | none => false

/-- The stow release asked of one row (R32). -/
def Block.stowRelease (b : Block) (r : RowId) : Block := b.modRow r fun x => x.toRelease (b.holderBraced x)

/-- The stow release asked of every present row (R167, R175). -/
def Block.releaseAll (e : Env) (b : Block) : Block :=
  b.mapRows fun r x => if (e.row r).present then x.toRelease (b.holderBraced x) else x

/-- Checks 3 to 7 of R22; none when the claim may be made. -/
def enterCheck (b : Block) (k : RobotId) (r : RowId) : Option Answer :=
  let x := b.row r
  if b.weather ≠ .calm then some { code := .weather }
  else if x.locked.isSome || x.tracker == .faulted || x.tracker == .stowReleased || x.tracker == .stowed
      || x.tracker == .unstowWanted then some { code := .state }
  else
    match x.holder with
    | some j => some { code := .heldBy, payload := [byteOf j.val] }
    | none =>
      if (b.robot k).idleAt ≠ some r then some { code := .state }
      else if x.reservedByOther k then some { code := .reserved }
      else none

/-- The claim of R23. -/
def Block.claimRow (e : Env) (k : RobotId) (r : RowId) (b : Block) : Block :=
  ((b.modRow r fun x => { x with holder := some k, tracker := .holdPending, resumeWanted := false }).modRobot k
    fun z => { z with mode := .waitHold }).arm e (.holdConfirm k) e.params.confirmTimeout

/-- The end of a pending claim of robot `k` on row `r`, by expiry (R25) or by tracker fault (R30). -/
def Block.endClaim (k : RobotId) (r : RowId) (fault : Bool) (b : Block) : Handed :=
  let b1 := b.modRow r fun x =>
    let y := { x with holder := none }
    if fault then { y with tracker := .faulted, cls := 0 } else y.toReturn b.weather
  let b2 := b1.modRobot k fun z =>
    { z with mode := if z.mode = .waitHold then .idle else z.mode, outcome := .entryFailed }
  let (b3, h) := b2.settleEntry k r (fun x => x.state == .active) .skipped (some .holdTimeout)
  (b3, h ++ [.rest k])

/-- The expiry of HOLD_CONFIRM(k) (R25). -/
def holdConfirmExpired (k : RobotId) (b : Block) : Handed :=
  match allRows.find? fun r => (b.row r).holder == some k && (b.row r).tracker == .holdPending with
  | some r => b.endClaim k r false
  | none => (b, [])

/-- The expiry of HOLD_LIMIT(k) (R28). -/
def holdLimitExpired (k : RobotId) (b : Block) : Handed :=
  match b.heldRow k with
  | some r =>
    let b1 := b.modRow r fun x => { x with overstay := true }
    (if (b.robot k).mode = .onRow then b1.setOrder k .exit else b1, [])
  | none => (b, [])

end Sys2Proof.Machine
end

