-- ==== Sys2Proof/Machine/TransferRules.lean ====
section
/-! DEFINITION. The transfer scheduler's rules: acceptance, queue order, offers of work, steps, failure and removal
(chapter 4). -/

namespace Sys2Proof.Machine

open Sys2Proof

/-! ## Records, tags and the garage -/

/-- The tags in use, in every shuttle's queue. -/
def Block.usedTags (b : Block) : List Tag := allShuttles.flatMap fun s => (b.shuttle s).queue.map Transfer.tag

/-- The lowest free tag (R62). -/
def Block.freeTag (b : Block) : Option Tag := (List.finRange 32).find? fun t => !b.usedTags.contains t

/-- The record with a tag in a shuttle's queue. -/
def Shuttle.record (x : Shuttle) (t : Tag) : Option Transfer := x.queue.find? fun z => z.tag == t

/-- The shuttle whose queue holds a tag, with the record. -/
def Block.recordOf (b : Block) (t : Tag) : Option (ShuttleId × Transfer) :=
  allShuttles.findSome? fun s => ((b.shuttle s).record t).map fun z => (s, z)

/-- The shuttle's garage is claimed (R65). -/
def Block.garageClaimed (b : Block) (s : ShuttleId) : Bool :=
  (allRobots.any fun k => (b.robot k).location == .carried s && (b.robot k).inGarage)
    || (b.shuttle s).queue.any fun t => t.dest == .garage

/-! ## Acceptance (R66, R67) and the queue (R68) -/

/-- Where a robot may be taken from, and the shuttle that would take it: IDLE at a row end, or CARRIED (R66, check 4). -/
def transferSource (e : Env) (x : Robot) : Option (Source × Option ShuttleId) :=
  match x.mode, x.location with
  | .idle, .rowEnd r => some (.rowEnd r, (e.row r).shuttle)
  | .carried, .carried s => some (.carried s, some s)
  | _, _ => none

/-- The destination is the robot's own place (R66, check 5). -/
def ownPlace (x : Robot) (dest : Dest) : Bool :=
  match dest with
  | .rowEnd d => x.location == .rowEnd d
  | .garage => x.inGarage && (match x.location with | .carried _ => true | _ => false)

/-- Checks 6 to 9 of R66 against the shuttle `s`; the tag that acceptance would take. -/
def routeCheck (e : Env) (b : Block) (k : RobotId) (dest : Dest) (s : ShuttleId) : Except Code Tag :=
  let x := b.shuttle s
  let noRoute := x.mode == .faulted || (match dest with | .rowEnd d => (e.row d).shuttle != some s | .garage => false)
  let locked := match dest with | .rowEnd d => (b.row d).locked.isSome | .garage => false
  let busy := match dest with
    | .rowEnd d => !(b.row d).endFree || (b.row d).reservedByOther k
    | .garage => b.garageClaimed s
  if noRoute then .error .noRoute
  else if locked then .error .state
  else if busy then .error .endBusy
  else if 8 ≤ x.queue.length then .error .full
  else
    match b.freeTag with
    | some t => .ok t
    | none => .error .full

/-- The destination row, if it is one, is present (R66, check 1; R6). -/
def destPresent (e : Env) : Dest → Bool
  | .rowEnd d => (e.row d).present
  | .garage => true

/-- The acceptance test of R66 for a robot in range: the source, the shuttle and the tag, or the outcome. -/
def transferCheck (e : Env) (b : Block) (origin : Origin) (k : RobotId) (dest : Dest) :
    Except Code (Source × ShuttleId × Tag) :=
  let x := b.robot k
  if !destPresent e dest then .error .badRow
  else if origin = .fleet ∧ b.storm = true then .error .weather
  else
    match transferSource e x with
    | none => .error .state
    | some (src, via) =>
      if x.transfer.isSome then .error .state
      else if ownPlace x dest then .error .sameRow
      else
        match via with
        | none => .error .noRoute
        | some s => (routeCheck e b k dest s).map fun t => (src, s, t)

/-- The record placed before the first one that `stop` admits, at the tail when there is none. -/
def placeBefore (stop : Transfer → Bool) (t : Transfer) : List Transfer → List Transfer
  | [] => [t]
  | x :: xs => if stop x then t :: x :: xs else x :: placeBefore stop t xs

/-- Queue placement (R68). -/
def placeRecord (t : Transfer) (queue : List Transfer) : List Transfer :=
  match t.origin with
  | .recovery => placeBefore (fun x => x.step == .queued) t queue
  | .park => placeBefore (fun x => x.step == .queued && !x.origin.parkPriority) t queue
  | .fleet | .round | .charge => queue ++ [t]

/-- The destination row's end reservation becomes the tag (R67). -/
def Block.reserveDest (b : Block) (dest : Dest) (t : Tag) : Block :=
  match dest with
  | .rowEnd d => b.modRow d fun x => { x with reservation := some t }
  | .garage => b

/-- Acceptance (R67), without the offer of work. -/
def Block.accept (b : Block) (origin : Origin) (k : RobotId) (dest : Dest) (src : Source) (s : ShuttleId) (t : Tag) :
    Block :=
  let b1 := b.reserveDest dest t
  let b2 := b1.modRobot k fun x =>
    { x with
      transfer := some t
      mode := (match src with | .rowEnd _ => .waitTransfer | .carried _ => x.mode)
      order := if x.order = .attend then .none else x.order }
  let z : Transfer := { tag := t, robot := k, source := src, dest := dest, origin := origin, step := .queued }
  b2.modShuttle s fun x => { x with queue := placeRecord z x.queue }

/-- A transfer request (R66, R67): the accepted block, shuttle and tag, or the outcome. The offer of work that follows is
the hand-on `.offer`. -/
def askTransfer (e : Env) (b : Block) (origin : Origin) (k : RobotId) (dest : Dest) :
    Except Code (Block × ShuttleId × Tag) :=
  (transferCheck e b origin k dest).map fun (src, s, t) => (b.accept origin k dest src s t, s, t)

/-! ## Steps (R70) -/

/-- The command of a step, filled from the record (R82). -/
def Transfer.command (t : Transfer) (x : RunStep) : Option LinkOp :=
  match x, t.source, t.dest with
  | .moveToSource, .rowEnd r, _ => some (.move r none)
  | .loading, .rowEnd r, _ => some (.load t.robot r)
  | .moveToDest, _, .rowEnd d => some (.move d (some t.robot))
  | .moveToDest, _, .garage => some (.garage (some t.robot))
  | .unloading, _, .rowEnd d => some (.unload t.robot d)
  | _, _, _ => none

/-- MOVING for the moves, DOCKING for loading and unloading (R70). -/
def RunStep.shuttleMode : RunStep → ShuttleMode
  | .moveToSource | .moveToDest => .moving
  | .loading | .unloading => .docking

/-- The queue with the record of a tag changed. -/
def setStep (t : Tag) (st : TransferStep) (queue : List Transfer) : List Transfer :=
  queue.map fun z => if z.tag = t then { z with step := st } else z

/-- A step of record `t` starts on shuttle `s` (R70). From MOVE_TO_DEST on the robot is in the garage no more (R63, R69). -/
def Block.startStep (e : Env) (s : ShuttleId) (t : Transfer) (x : RunStep) (b : Block) : Block :=
  let b1 := b.modShuttle s fun z =>
    { z with mode := x.shuttleMode, pollDue := none, commandSent := false, queue := setStep t.tag (.running x) z.queue }
  let b2 := match t.command x with
    | some op => b1.placeLink s op false
    | none => b1.withdrawLink s
  let b3 := if x = .moveToDest ∨ x = .unloading then b2.modRobot t.robot fun z => { z with inGarage := false } else b2
  b3.arm e (.shuttleStep s) e.params.stepTimeout

/-! ## Failure and removal (R75, R77) -/

/-- Part 3 of R75: the robot keeps its last known location. -/
def Transfer.leaveRobot (t : Transfer) (s : ShuttleId) (x : Robot) : Robot :=
  let y := { x with transfer := none }
  match t.step, t.source with
  | .queued, .rowEnd _ | .running .moveToSource, .rowEnd _ | .running .loading, .rowEnd _ =>
    { y with mode := if x.mode = .waitTransfer then .idle else x.mode }
  | .running .moveToDest, _ | .running .unloading, _ =>
    { y with location := .carried s, inGarage := false, order := .attend }
  | _, _ => y

/-- Part 2 of R75: the destination's end reservation is released. -/
def Block.releaseDest (b : Block) (t : Transfer) : Block :=
  match t.dest with
  | .rowEnd d => b.modRow d fun x => { x with reservation := if x.reservation = some t.tag then none else x.reservation }
  | .garage => b

/-- Parts 1 to 3 of R75, which are the removal of R77. -/
def Block.removeRecord (b : Block) (s : ShuttleId) (t : Transfer) : Block :=
  let wasCurrent := (b.shuttle s).current == some t.tag
  let b1 := b.modShuttle s fun x =>
    { x with queue := x.queue.filter fun z => z.tag != t.tag, current := if wasCurrent then none else x.current }
  let b2 := if wasCurrent then b1.cancel (.shuttleStep s) else b1
  (b2.releaseDest t).modRobot t.robot (t.leaveRobot s)

/-- Parts 1 to 4 of R75. -/
def Block.failParts (b : Block) (s : ShuttleId) (t : Transfer) (why : FailReason) : Block :=
  (b.removeRecord s t).setOutcome t.robot (.transferFailed why)

/-- The owner of the origin has nothing to take (R75, part 5): a robot IDLE at a row end comes to rest, and a carried robot
is ordered ATTEND. -/
def Block.nothingToTake (b : Block) (k : RobotId) : Handed :=
  match (b.robot k).idleAt, (b.robot k).location with
  | some _, _ => (b, [.rest k])
  | none, .carried _ => (b.setOrder k .attend, [])
  | none, _ => (b, [])

/-- The round planner settles the ACTIVE entry of a failed ROUND transfer (R107). -/
def Block.settleFailed (b : Block) (k : RobotId) (dest : Dest) (why : FailReason) : Handed :=
  match dest with
  | .garage => (b, [])
  | .rowEnd d =>
    match why with
    | .storm =>
      match (b.robot k).round with
      | none => (b, [])
      | some rd =>
        let rd' := rd.mapEntries (fun x => x.row == d && x.state == .active) (fun x => x.settled .pending none)
        (b.modRobot k fun x => { x with stack := setRound rd' x.stack }, [])
    | .destLocked => b.settleEntry k d (fun x => x.state == .active) .skipped (some .ineligible)
    | .shuttleTimeout | .shuttleFault | .lost | .link =>
      b.settleEntry k d (fun x => x.state == .active) .skipped (some .endBusy)

/-- Part 5 of R75: the owner of the origin takes the failure. -/
def Block.failHandOn (b : Block) (t : Transfer) (why : FailReason) : Handed :=
  match t.origin with
  | .fleet => (b, [])
  | .round =>
    match (b.robot t.robot).round with
    | none => b.nothingToTake t.robot
    | some _ =>
      let (b1, h) := b.settleFailed t.robot t.dest why
      (b1, h ++ (if why = .storm then [] else [.handRound t.robot]))
  | .charge => (b.modRobot t.robot fun x => { x with chargeWait := true }, [])
  | .park | .recovery => if b.storm then (b, [.wantPass]) else b.nothingToTake t.robot

/-- A transfer is failed with a reason (R75), and its shuttle, if it is left IDLE, is offered work. -/
def Block.failTransfer (b : Block) (s : ShuttleId) (t : Transfer) (why : FailReason) : Handed :=
  let (b1, h) := (b.failParts s t why).failHandOn t why
  (b1, h ++ [.offer s])

/-- Fails the record of a tag if it stands QUEUED. -/
def Block.failQueued (b : Block) (s : ShuttleId) (t : Tag) (why : FailReason) : Handed :=
  match (b.shuttle s).record t with
  | some z => if z.step = .queued then b.failTransfer s z why else (b, [])
  | none => (b, [])

/-- Fails the record of a tag, if it stands in the queue. -/
def Block.failTag (b : Block) (s : ShuttleId) (t : Tag) (why : FailReason) : Handed :=
  match (b.shuttle s).record t with
  | some z => b.failTransfer s z why
  | none => (b, [])

/-! ## Offers of work (R69) -/

/-- The record R69 chooses. -/
def Shuttle.choice (x : Shuttle) : Option Transfer :=
  match x.load with
  | some k => x.queue.find? fun t => t.step == .queued && t.robot == k
  | none => x.queue.find? fun t => t.step == .queued

/-- The first step of a dispatched record (R69). A carried robot bound for the garage moves there (log entry 13). -/
def firstStep (position : Option Dest) (t : Transfer) : RunStep :=
  match t.source with
  | .carried _ =>
    match t.dest with
    | .rowEnd d => if position = some (.rowEnd d) then .unloading else .moveToDest
    | .garage => .moveToDest
  | .rowEnd r => if position = some (.rowEnd r) then .loading else .moveToSource

/-- The destination row has become LOCKED (R69). -/
def Block.destLocked (b : Block) : Dest → Bool
  | .rowEnd d => (b.row d).locked.isSome
  | .garage => false

/-- A shuttle is offered work (R69). -/
def Block.offerWork (e : Env) (s : ShuttleId) (b : Block) : Handed :=
  let x := b.shuttle s
  if x.mode = .idle ∧ x.current = none then
    match x.choice with
    | none => (b, [])
    | some t =>
      if b.destLocked t.dest then b.failTransfer s t .destLocked
      else
        let b1 := b.modShuttle s fun z =>
          { z with queue := t :: z.queue.filter (fun y => y.tag != t.tag), current := some t.tag }
        (b1.startStep e s t (firstStep x.position t), [])
  else (b, [])

/-- The shuttle becomes FAULTED with a cause (R74, R75, R76, R78). It is neither polled nor sent a command (R64): its poll due
becomes none, and its pending transaction is withdrawn (log entry 14). -/
def Block.faultShuttle (b : Block) (s : ShuttleId) (why : ShuttleCause) : Block :=
  (b.modShuttle s fun x => { x with mode := .faulted, cause := some why, pollDue := none }).withdrawLink s

/-- The expiry of SHUTTLE_STEP(s) (R76). -/
def shuttleStepExpired (s : ShuttleId) (b : Block) : Handed :=
  let b1 := b.faultShuttle s .timeout
  match (b.shuttle s).current with
  | some t => b1.failTag s t .shuttleTimeout
  | none => (b1, [])

/-- A shuttle is made LOCAL by a request (R64): fault cause none, position unknown, poll due none; the discard mark is set
on its transaction in flight (R86), and a STATUS is placed for it (R70). -/
def Block.makeLocal (b : Block) (s : ShuttleId) : Block :=
  ((b.modShuttle s fun x =>
      { x with mode := .localUnknown, cause := none, position := none, pollDue := none, commandSent := false }).discardFlight
    s).placeStatus s

/-- POLL_DUE: a poll due of 0 places a STATUS and becomes none (R71). -/
def Block.takePoll (b : Block) (s : ShuttleId) : Block :=
  if (b.shuttle s).pollDue = some 0 then (b.modShuttle s fun x => { x with pollDue := none }).placeStatus s else b

end Sys2Proof.Machine
end

