-- ==== Sys2Proof/Machine/RoundRules.lean ====
section
/-! DEFINITION. The round planner's rules: search, building, starting and settling of entries (chapter 6). -/

namespace Sys2Proof.Machine

open Sys2Proof

/-! ## The search (R100, R102, R103) -/

/-- The search range of a robot at ROW_END(s): the rows of its shuttle's bay range, or the row alone (R100). -/
def searchRange (e : Env) (b : Block) (s : RowId) : Nat × Nat :=
  match (e.row s).shuttle with
  | some u =>
    match (b.shuttle u).range with
    | some (lo, hi) => (16 * lo.val, 16 * hi.val + 15)
    | none => (s.val, s.val)
  | none => (s.val, s.val)

/-- The search order from s: s, …, hi, lo, …, s − 1 (R102). -/
def searchOrder (lo hi : Nat) (s : RowId) : List RowId :=
  (allRows.filter fun r => decide (s.val ≤ r.val ∧ r.val ≤ hi))
    ++ allRows.filter fun r => decide (lo ≤ r.val ∧ r.val < s.val)

/-- A candidate row, but for its class (R100). -/
def Block.candidate (b : Block) (s r : RowId) : Bool :=
  let x := b.row r
  x.holder.isNone && x.reservedBy.isNone && x.tracker == .tracking && x.locked.isNone && (x.endFree || r == s)

/-- The rows taken, in the order of the search: class 3, then 2, then 1, each in search order, at most `len` (R102). -/
def searchRows (e : Env) (b : Block) (s : RowId) (len : Nat) : List RowId :=
  let (lo, hi) := searchRange e b s
  let found := (searchOrder lo hi s).filter fun r => b.candidate s r
  (([3, 2, 1] : List Urgency).flatMap fun c => found.filter fun r => inUrgencyMap e b c r).take len

/-- The rows taken in sweep order, which is their place in the search order (R103). -/
def sweepRows (e : Env) (b : Block) (s : RowId) (len : Nat) : List RowId :=
  let (lo, hi) := searchRange e b s
  let taken := searchRows e b s len
  (searchOrder lo hi s).filter fun r => taken.contains r

/-- Parts 2 to 4 of R103: the round is made, its rows are reserved and the ROUND task is pushed. -/
def Block.buildRound (b : Block) (k : RobotId) (s : RowId) (rows : List RowId) : Block :=
  let rd : Round :=
    { start := s, paused := false
      entries := rows.map fun r => { row := r, state := .pending, entered := false, reason := none } }
  let b1 := rows.foldl (fun c r => c.modRow r fun x => { x with reservedBy := some k }) b
  b1.modRobot k fun x => { x with stack := .round rd :: x.stack }

/-! ## Starting entries (R104 to R106) -/

/-- The entry to start: the ACTIVE entry if one stands, and otherwise the first PENDING one (R104, step 3). -/
def Round.nextEntry (rd : Round) : Option Entry :=
  match rd.entries.find? fun x => x.state == .active with
  | some x => some x
  | none => rd.entries.find? fun x => x.state == .pending

/-- The entry's row is ineligible (R104, step 4). -/
def RowState.ineligible (x : RowState) : Bool :=
  x.locked.isSome || x.stranded || x.faultNoted || x.tracker != .tracking

/-- The skip reason of a refused transfer request (R106). -/
def refusedEntry : Code → SkipReason
  | .endBusy | .noRoute => .endBusy
  | .full => .queueFull
  | _ => .ineligible

def Round.skip (rd : Round) (r : RowId) (why : SkipReason) : Round :=
  rd.mapEntries (fun x => x.row == r) (fun x => x.settled .skipped (some why))

def Round.activate (rd : Round) (r : RowId) : Round :=
  rd.mapEntries (fun x => x.row == r) (fun x => { x with state := .active, entered := false })

/-- Steps 3 to 6 of R104 for a robot IDLE at ROW_END(p): entries are skipped until one starts or none is left. The fuel is
more than the entries of a round; each turn but the last skips one. -/
def startEntries (e : Env) (k : RobotId) (p : RowId) : Nat → Round → Block → Round × Block × List HandOn
  | 0, rd, b => (rd, b, [])
  | n + 1, rd, b =>
    match rd.nextEntry with
    | none => (rd, b, [])
    | some x =>
      if (b.row x.row).ineligible then startEntries e k p n (rd.skip x.row .ineligible) (b.unreserve x.row)
      else if x.row = p then
        match enterCheck b k x.row with
        | none => (rd.activate x.row, b.claimRow e k x.row, [])
        | some _ => startEntries e k p n (rd.skip x.row .ineligible) (b.unreserve x.row)
      else
        match askTransfer e b .round k (.rowEnd x.row) with
        | .ok (b1, s, _) => (rd.activate x.row, b1, [.offer s])
        | .error c => startEntries e k p n (rd.skip x.row (refusedEntry c)) (b.unreserve x.row)

/-- The robot is handed to its round (R104, R110, R114): the round as it then stands, the block and the hand-ons. -/
def handToRound (e : Env) (k : RobotId) (b : Block) : Option Round × Handed :=
  match (b.robot k).idleAt, (b.robot k).round with
  | some p, some rd =>
    if (b.robot k).roundOnTop then
      let left := fun x : Entry => x.state == .active && x.entered
      let b0 := (rd.entries.filter left).foldl (fun c x => c.unreserve x.row) b
      let rd0 := rd.mapEntries left fun x => x.settled .skipped (some .aborted)
      let (rd1, b1, h) :=
        if rd0.complete then (rd0, b0, [])
        else if b.weather ≠ .calm then ({ rd0 with paused := true }, b0, [])
        else startEntries e k p (rd0.entries.length + 1) { rd0 with paused := false } b0
      let (b2, h2) := (b1.modRobot k fun x => { x with stack := setRound rd1 x.stack }).finishRound k
      (some rd1, b2, h ++ h2)
    else (none, b, [])
  | _, _ => (none, b, [])

end Sys2Proof.Machine
end

