-- ==== Sys2Proof/Machine/RobotRules.lean ====
section
/-! DEFINITION. The robot table's rules: coming to rest, the charge tests and plan, faults of robots (chapter 3). -/

namespace Sys2Proof.Machine

open Sys2Proof

/-! ## Charge (R56 to R58) -/

/-- The CHARGE push test (R56). -/
def pushTest (e : Env) (b : Block) (x : Robot) : Bool :=
  decide (x.battery < e.params.chargeFloor) && (b.weather == .calm || b.weather == .watch) && !x.holdsCharge

/-- The CHARGE pop test (R58). -/
def popTest (e : Env) (x : Robot) : Bool :=
  match x.stack, x.idleAt with
  | .charge :: _, some r => (e.row r).cradle && decide (e.params.resumeLevel ≤ x.battery)
  | _, _ => false

/-- The cradles in a shuttle's range whose end is free, unreserved and unlocked (R57, R93, R170). -/
def cradleCandidates (e : Env) (b : Block) (s : ShuttleId) : List RowId :=
  allRows.filter fun c =>
    (e.row c).present && (e.row c).cradle && (e.row c).shuttle == some s && (b.row c).isOpen

/-- The charge plan (R57) of a robot IDLE at a row end whose top task is CHARGE. -/
def chargePlan (e : Env) (k : RobotId) (b : Block) : Handed :=
  match (b.robot k).idleAt with
  | none => (b, [])
  | some r =>
    let wait := fun (w : Bool) (c : Block) => c.modRobot k fun x => { x with chargeWait := w }
    if (e.row r).cradle then (wait false b, [])
    else
      match (e.row r).shuttle with
      | none => (wait true b, [])
      | some u =>
        match nearestRow r (cradleCandidates e b u) with
        | none => (wait true b, [])
        | some c =>
          match askTransfer e b .charge k (.rowEnd c) with
          | .ok (b1, s, _) => (wait false b1, [.offer s])
          | .error _ => (wait true b, [])

/-- A CHARGE task on top, given a robot at rest: the pop test, then the charge plan (R44, R59). -/
def chargeTop (e : Env) (k : RobotId) (b : Block) : Handed :=
  if popTest e (b.robot k) then (b.modRobot k fun x => { x with stack := x.stack.tail }, [.giveTop k])
  else chargePlan e k b

/-- The pop test made by a status report (R52, R58). -/
def chargePop (e : Env) (k : RobotId) (b : Block) : Handed :=
  if popTest e (b.robot k) then (b.modRobot k fun x => { x with stack := x.stack.tail }, [.giveTop k])
  else (b, [])

/-- The push test made by a status report (R56). -/
def chargePush (e : Env) (k : RobotId) (b : Block) : Handed :=
  let x := b.robot k
  if pushTest e b x then
    match x.mode, x.location with
    | .idle, .rowEnd _ => chargePlan e k (b.modRobot k fun z => { z with stack := .charge :: z.stack })
    | .waitHold, _ | .onRow, _ | .waitTransfer, _ | .carried, _ | .idle, .unknown =>
      (b.modRobot k fun z => { z with chargeDeferred := true }, [])
    | _, _ => (b, [])
  else (b, [])

/-- The retry of the charge plan at a DONE (R57). -/
def chargeRetry (e : Env) (k : RobotId) (b : Block) : Handed :=
  let x := b.robot k
  if x.chargeWait then
    match x.stack with
    | .charge :: _ => if x.idleAt.isSome then chargePlan e k b else (b, [])
    | _ => (b.modRobot k fun z => { z with chargeWait := false }, [])
  else (b, [])

/-! ## Coming to rest (R44) -/

/-- The robot comes to rest (R44): a deferred charge push, and then the top task is given it. -/
def comeToRest (e : Env) (k : RobotId) (b : Block) : Handed :=
  let x := b.robot k
  match x.idleAt with
  | none => (b, [])
  | some _ =>
    let b1 :=
      if x.chargeDeferred then
        b.modRobot k fun z =>
          { z with chargeDeferred := false, stack := if pushTest e b x then .charge :: z.stack else z.stack }
      else b
    (b1, [.giveTop k])

/-- The top task is given a robot that is IDLE at a row end (R44, step 2; R59). -/
def giveTop (k : RobotId) (b : Block) : Handed :=
  let x := b.robot k
  match x.idleAt, x.stack with
  | some _, .round _ :: _ => (b, [.handRound k])
  | some _, .charge :: _ => (b, [.chargeTop k])
  | some _, .park :: _ => (b, [.wantPlan k])
  | _, _ => (b, [])

/-! ## Faults of robots (R53 to R55) -/

/-- The discard of a ROUND task (R54). -/
def Block.discardRound (b : Block) (k : RobotId) : Block :=
  match (b.robot k).round with
  | none => b
  | some rd =>
    (b.releaseOpen rd).modRobot k fun x => { x with stack := dropRound x.stack, outcome := .roundDiscarded }

/-- The robot's transfer, when it is still QUEUED, is removed (R53, R77). -/
def Block.removeQueued (b : Block) (k : RobotId) : Handed :=
  match (b.robot k).transfer.bind b.recordOf with
  | some (s, t) => if t.step = .queued then (b.removeRecord s t, [.offer s]) else (b, [])
  | none => (b, [])

/-- A report with the fault flag set (R53). -/
def faultReport (k : RobotId) (b : Block) : Handed :=
  match (b.robot k).mode with
  | .faulted | .absent => (b, [])
  | .braced => (b.modRobot k fun x => { x with faultPending := true }, [])
  | .idle | .waitHold | .onRow | .waitTransfer | .carried =>
    let b1 := b.modRobot k fun x => { x with mode := .faulted, chargeDeferred := false, chargeWait := false }
    (b1.discardRound k).removeQueued k

/-- The state a robot takes when it leaves FAULTED (R55). -/
def Block.recoveredMode (b : Block) (k : RobotId) : RobotMode :=
  let x := b.robot k
  match x.location with
  | .onRow _ => .onRow
  | .rowEnd _ | .unknown | .nowhere =>
    if allRows.any fun r => (b.row r).holder == some k && (b.row r).tracker == .holdPending then .waitHold
    else if x.transfer.isSome then .waitTransfer
    else .idle
  | .carried _ =>
    if allRows.any fun r => (b.row r).holder == some k && (b.row r).tracker == .holdPending then .waitHold else .carried

/-- A report with the fault flag clear (R55). -/
def clearReport (k : RobotId) (b : Block) : Handed :=
  match (b.robot k).mode with
  | .faulted => (b.modRobot k fun x => { x with mode := b.recoveredMode k }, [.rest k])
  | .braced => (b.modRobot k fun x => { x with faultPending := false }, [])
  | .absent | .idle | .waitHold | .onRow | .waitTransfer | .carried => (b, [])

end Sys2Proof.Machine
end

