-- ==== Sys2Proof/Machine/StormRules.lean ====
section
/-! DEFINITION. The weather controller's rules: the hand of a level, PARK, STOW, RECOVER and CALM entry, the park plan
and the park deadline (chapter 10). -/

namespace Sys2Proof.Machine

open Sys2Proof

/-! ## The park plan (R168 to R171) -/

/-- Sets a park standing; a change to SAFE gives the outcome PARKED, a change to UNPARKED gives NO_PARK (R171). -/
def Block.stand (b : Block) (k : RobotId) (st : Standing) : Block :=
  b.modRobot k fun x =>
    { x with
      standing := st
      outcome :=
        if x.standing = st then x.outcome
        else (match st with | .safe => .parked | .unparked => .noPark | .none => x.outcome) }

/-- The order becomes BRACE and the standing UNPARKED (R169, R170, R172). -/
def Block.orderBrace (b : Block) (k : RobotId) : Block := (b.setOrder k .brace).stand k .unparked

/-- No place was found (R170, step 5). -/
def Block.noPlace (b : Block) (k : RobotId) : Block :=
  match (b.robot k).location with
  | .carried _ => (b.setOrder k .attend).stand k .unparked
  | _ => b.orderBrace k

/-- The cradle taken for a robot (R170, step 2): the nearest to the reference row, or the lowest when there is none. -/
def cradlePlace (e : Env) (b : Block) (s : ShuttleId) (p : Option RowId) : Option RowId :=
  match p with
  | some r => nearestRow r (cradleCandidates e b s)
  | none => (cradleCandidates e b s).head?

/-- A place is sought for robot `k` from reference row `p` and shuttle `via` (R170). `garage` says that step 3 applies. -/
def seekPlace (e : Env) (k : RobotId) (p : Option RowId) (via : Option ShuttleId) (garage : Bool) (b : Block) : Handed :=
  match via with
  | none => (b.noPlace k, [])
  | some s =>
    if (b.shuttle s).mode = .faulted then (b.noPlace k, [])
    else
      let place : Option Dest :=
        match cradlePlace e b s p with
        | some c => some (.rowEnd c)
        | none => if garage && !b.garageClaimed s then some .garage else none
      match place with
      | none => (b.noPlace k, [])
      | some d =>
        match askTransfer e b .park k d with
        | .ok (b1, u, _) => (b1.modRobot k fun x => { x with parkWait := false }, [.offer u])
        | .error .full => (b.modRobot k fun x => { x with parkWait := true }, [])
        | .error _ => (b.noPlace k, [])

/-- The shuttle's position when it is a row (R170). -/
def Shuttle.positionRow (x : Shuttle) : Option RowId :=
  match x.position with
  | some (.rowEnd r) => some r
  | _ => none

/-- The robot is located at a cradle's end, or waits in a garage (R169, second line). -/
def inSafePlace (e : Env) (x : Robot) : Bool :=
  match x.location with
  | .rowEnd c => (e.row c).cradle
  | .carried _ => x.inGarage
  | .nowhere | .onRow _ | .unknown => false

/-- The plan of one robot (R169), made in PARK or STOW only (R168). -/
def planRobot (e : Env) (k : RobotId) (b : Block) : Handed :=
  let x := b.robot k
  let late := b.weather == .stow || b.deadlinePassed
  if !b.storm then (b, [])
  else if x.mode = .braced ∨ x.order = .brace then (b.modRobot k fun z => { z with parkWait := false }, [])
  else if inSafePlace e x then ((b.stand k .safe).modRobot k fun z => { z with parkWait := false }, [])
  else if x.transfer.isSome then (b, [])
  else
    match x.mode, x.location with
    | .waitHold, _ => (b, [])
    | .faulted, .onRow r => (if late then b.modRow r RowState.strand else b, [])
    | .onRow, .onRow r =>
      let b1 := if late then b.modRow r RowState.strand else b
      (if b.deadlinePassed then b1.orderBrace k else b1.setOrder k .exit, [])
    | .idle, .rowEnd r =>
      if b.deadlinePassed then (b.orderBrace k, []) else seekPlace e k (some r) (e.row r).shuttle true b
    | _, .carried s => seekPlace e k (b.shuttle s).positionRow (some s) true b
    | .idle, .unknown => (b.stand k .unparked, [])
    | _, _ => (b, [])

/-- A pass (R168): every enrolled robot whose stack holds a PARK task, in ascending order. -/
def parkPass (b : Block) : List HandOn :=
  if b.storm then
    (allRobots.filter fun k => (b.robot k).enrolled && (b.robot k).holdsPark).map .planRobot
  else []

/-! ## Entries -/

/-- The weather state changes, and the weather-changed flag is set (R148, R162). -/
def Block.setWeather (b : Block) (w : Weather) : Block := { b with weather := w, weatherChanged := true }

/-- Every QUEUED record of priority NORMAL, shuttles ascending and records in queue order (R167, part 2). -/
def Block.queuedNormal (b : Block) : List (ShuttleId × Tag) :=
  allShuttles.flatMap fun s =>
    ((b.shuttle s).queue.filter fun t => t.step == .queued && !t.origin.parkPriority).map fun t => (s, t.tag)

/-- PARK entry without the pass of its part 5 (R167). -/
def Block.enterPark (e : Env) (b : Block) : Handed :=
  ({ b.arm e .parkDeadline e.params.parkDeadline with deadlinePassed := false },
    (b.queuedNormal.map fun x => .failRecord x.1 x.2 .storm) ++ [.pushParks, .releaseRows])

/-- Part 3 of R167. -/
def Block.pushParks (b : Block) : Block :=
  b.mapRobots fun _ x => if x.enrolled && !x.holdsPark then { x with stack := .park :: x.stack } else x

/-- Part 4 of R175: every HELD row whose holder rides it and is not BRACED. -/
def Block.strandHeld (b : Block) : Block :=
  b.mapRows fun r x =>
    match x.holder with
    | some k =>
      if x.tracker = .held ∧ (b.robot k).location = .onRow r ∧ (b.robot k).mode ≠ .braced then x.strand else x
    | none => x

/-- CALM entry (R178): the state becomes CALM and every enrolled robot is taken in ascending order. -/
def Block.enterCalm (b : Block) : Handed := (b.setWeather .calm, allRobots.map .calmRobot)

/-- What CALM entry does to one robot (R178, part 2). -/
def calmRobot (k : RobotId) (b : Block) : Handed :=
  let x := b.robot k
  if x.enrolled then
    let b1 := b.modRobot k fun z =>
      { z with
        standing := .none, parkWait := false
        stack := z.stack.filter fun t => t != .park
        order := if z.inGarage && z.transfer.isNone && (match z.location with | .carried _ => true | _ => false)
          then .attend else z.order }
    let pausedOnTop := x.roundOnTop && (match x.round with | some rd => rd.paused | none => false)
    let next :=
      if x.holdsPark then (match x.stack with | .park :: _ => [HandOn.giveTop k] | _ => [])
      else if pausedOnTop && x.idleAt.isSome then [.handRound k] else []
    (b1, next)
  else (b, [])

/-- The test of R177 holds: RECOVER is to be left for CALM. -/
def Block.recovered (e : Env) (b : Block) : Bool :=
  b.weather == .recover && b.level == .none
    && (allRows.all fun r =>
      !((e.row r).present && ((b.row r).tracker == .stowed || (b.row r).tracker == .unstowWanted)))
    && allRobots.all fun k => (b.robot k).mode != .braced

/-- The test of R177, made at the end of an event. -/
def recoverTest (e : Env) (b : Block) : Handed := if b.recovered e then b.enterCalm else (b, [])

/-- The rank of a weather state (R163). -/
def Weather.rank : Weather → Nat
  | .calm => 0
  | .start | .watch | .recover => 1
  | .park => 2
  | .stow => 3

/-- A hand of the block level (R163 to R165). -/
def handLevel (e : Env) (l : Level) (ringFilled : Bool) (b : Block) : Handed :=
  let b0 := { b with level := l }
  let b1 := if l = .none then b0 else b0.cancel .calmHoldoff
  if b.weather.rank < l.place then
    match l with
    | .none => (b1, [])
    | .watch => (b1.setWeather .watch, [])
    | .park =>
      let (b2, h) := (b1.setWeather .park).enterPark e
      (b2, h ++ [.pass])
    | .stow =>
      let b2 := b1.setWeather .stow
      let (b3, h) := if b.weather = .park then (b2, []) else b2.enterPark e
      (b3, h ++ [.assertStowd, .releaseRows, .strandRows, .pass])
  else
    match b.weather, l with
    | .start, .none => if ringFilled then b1.enterCalm else (b1, [])
    | .start, .watch => (if ringFilled then b1.setWeather .watch else b1, [])
    | .watch, .none | .park, .none | .stow, .none =>
      (if b1.armed .calmHoldoff then b1 else b1.arm e .calmHoldoff e.params.calmHoldoff, [])
    | .recover, _ => (b1, [.recoverTest])
    | _, _ => (b1, [])

/-- RECOVER entry (R176). -/
def Block.enterRecover (e : Env) (b : Block) : Handed :=
  let b1 := { (b.setWeather .recover) with stowd := false, deadlinePassed := false }
  let b2 := (b1.cancel .parkDeadline).mapRows fun r x =>
    let y := x.toUnstow.toResume
    if (e.row r).present then { y with restart := true } else y
  let b3 := b2.mapRobots fun _ x =>
    { x with
      parkWait := false
      order := if x.mode = .braced then .unbrace else if x.order = .brace then .none else x.order }
  (b3, [.recoverTest])

/-- The expiry of CALM_HOLDOFF (R165). -/
def calmHoldoffExpired (e : Env) (b : Block) : Handed :=
  match b.weather with
  | .watch => b.enterCalm
  | .park | .stow => b.enterRecover e
  | .start | .calm | .recover => (b, [])

/-- The lines of R172 below its first two, for a robot in the place it has. -/
def Block.deadlinePlace (b : Block) (k : RobotId) : Block :=
  match (b.robot k).mode, (b.robot k).location with
  | .idle, .rowEnd _ | .waitHold, .rowEnd _ | .faulted, .rowEnd _ => b.orderBrace k
  | .onRow, .onRow r | .faulted, .onRow r => (b.modRow r RowState.strand).orderBrace k
  | _, .carried _ => if (b.robot k).inGarage then b else (b.stand k .unparked).setOrder k .attend
  | _, .unknown => (b.stand k .unparked).setOrder k .attend
  | _, _ => b

/-- The park deadline takes one robot (R172). A QUEUED transfer fails with reason STORM under parts 1 to 4 of R75, and the
entry of a ROUND transfer returns to PENDING (R107; log entry 25). -/
def deadlineRobot (e : Env) (k : RobotId) (b : Block) : Handed :=
  let x := b.robot k
  if !(x.enrolled && x.holdsPark) || inSafePlace e x || x.mode == .braced then (b, [])
  else
    match x.transfer.bind b.recordOf with
    | some (s, t) =>
      if t.step = .queued then
        let b1 := b.failParts s t .storm
        let (b2, h) := if t.origin = .round then b1.settleFailed k t.dest .storm else (b1, [])
        (b2.deadlinePlace k, h ++ [.offer s])
      else (b, [])
    | none => (b.deadlinePlace k, [])

/-- The expiry of PARK_DEADLINE (R172). -/
def parkDeadlineExpired (b : Block) : Handed :=
  ({ b with deadlinePassed := true }, allRobots.map .deadlineRobot ++ [.clearParkWaits])

def Block.clearParkWaits (b : Block) : Block := b.mapRobots fun _ x => { x with parkWait := false }

end Sys2Proof.Machine
end

