-- ==== Sys2Proof/Machine/LinkRules.lean ====
section
/-! DEFINITION. The shuttle link and what its completions do: the arbiter, the contention fault, the statuses of R72, R74
and R78, the DONE of a transfer (R73) and the reconciliation of R93 to R95 (chapters 4 and 5). -/

namespace Sys2Proof.Machine

open Sys2Proof

/-! ## Transactions (R82, R85, R187) -/

def LinkOp.code : LinkOp → Nat
  | .move _ _ => 1 | .load _ _ => 2 | .unload _ _ => 3 | .garage _ => 4 | .status => 5

/-- The address byte of a transaction (R187). -/
def addressByte (s : ShuttleId) (op : LinkOp) : Byte :=
  byteOf (64 * s.val + 8 * op.code + (if op = .status then 4 else 0))

/-- The data bytes sent to the shuttle (R82); a STATUS sends none. -/
def LinkOp.data : LinkOp → List Byte
  | .move r k => [byteOf r.val, optByte k]
  | .load k r => [byteOf k.val, byteOf r.val]
  | .unload k r => [byteOf k.val, byteOf r.val]
  | .garage k => [optByte k]
  | .status => []

/-- The number of data bytes of a transaction (R82). -/
def LinkOp.dataBytes : LinkOp → Nat
  | .status => 5
  | op => op.data.length

/-- The link bit periods a transaction takes (R82). -/
def LinkOp.periods (op : LinkOp) : Nat := 1 + 8 + (if op = .status then 1 else 0) + 8 * op.dataBytes + 1

/-- The length of the transaction in flight, in microseconds (R82). -/
def Flight.micros (x : Flight) : Nat := x.period * x.txn.op.periods

/-- The bits that the part sends in a transaction, in their order: the address byte and the data of a command, each byte
most significant bit first (R82). -/
def Flight.sentBits (x : Flight) : List Bool := (addressByte x.shuttle x.txn.op :: x.buffer).flatMap byteBits

/-- The bit that the part drives on LINK_DAT in a bit period of the transaction in flight, counted from 0 at its start. None
in the period before the first clock, after the last bit sent, and so in the turnaround and the data of a STATUS, which
the shuttle drives (R81, R82). -/
def State.linkBit (s : State) (period : Nat) : Option Bool :=
  match s.blk.link.inFlight with
  | some x => if s.inReset || !s.blk.link.enabled || period == 0 then none else x.sentBits[period - 1]?
  | none => none

/-- The status that the bits clocked in from the shuttle make, most significant bit first (R82, R83). -/
def statusOfBits (bits : List Bool) : Option StatusBytes :=
  match wholeBytes bits with
  | [state, position, flags, load, fault] =>
    some { state := state, position := position, flags := flags, load := load, fault := fault }
  | _ => none

/-- The shuttles in the cyclic order that follows the last-served one (R85). -/
def servingOrder (last : ShuttleId) : List ShuttleId := [last + 1, last + 2, last + 3, last]

/-- The shuttle the arbiter serves next (R85). -/
def Link.nextServed (x : Link) : Option ShuttleId := (servingOrder x.lastServed).find? fun s => (x.queue[s]).isSome

/-! ## The contention fault (R88 to R90) -/

/-- A dispatched record becomes IN_DOUBT and keeps its step (R90). -/
def Transfer.doubt (t : Transfer) : Transfer :=
  match t.step with
  | .running x => { t with step := .inDoubt x }
  | .queued | .inDoubt _ => t

/-- What the latch does to a shuttle (R89, R90). -/
def Shuttle.contention (x : Shuttle) : Shuttle :=
  let y := { x with queue := x.queue.map Transfer.doubt }
  if x.mode = .offline then y
  else { y with mode := .localUnknown, position := none, pollDue := none, cause := none, commandSent := false }

/-- The latch of the contention fault (R89, R90). -/
def Block.latch (b : Block) : Block :=
  { b with
    link := { b.link with enabled := false, queue := Vector.replicate 4 none, inFlight := none }
    shuttles := mapAll b.shuttles fun _ x => x.contention
    deadlines := b.deadlines.filter fun d => match d.kind with | .shuttleStep _ => false | _ => true
    linkFaultItem := true }

/-- A start of the link (R85): the arbiter's choice goes in flight, or the contention fault is latched with it. -/
def Block.startTransaction (e : Env) (contend : Bool) (b : Block) : Block :=
  if b.link.enabled && b.link.inFlight.isNone then
    match b.link.nextServed with
    | none => b
    | some s =>
      match b.link.queue[s] with
      | none => b
      | some x =>
        let flight : Flight :=
          { shuttle := s, txn := x, buffer := x.op.data, discard := false, period := e.params.bitPeriod }
        let b1 := { b with link := { b.link with queue := b.link.queue.set s none, lastServed := s, inFlight := some flight } }
        if contend then b1.latch else b1
  else b

/-! ## Statuses (R71, R83) -/

inductive StatusState where
  | ready | working | fault
  deriving DecidableEq, Repr

/-- A valid status: its state, the place it reports, its load and its fault code (R71, R83). `row` is the reported
position row, which is read even when the garage flag is set. -/
structure Status where
  state  : StatusState
  row    : RowId
  garage : Bool
  load   : Option RobotId
  fault  : Byte
  deriving DecidableEq, Repr

/-- The load byte: a robot, the none value, or neither (R83, R187). -/
def loadArg (x : Byte) : Option (Option RobotId) := if x = 0xFF then some none else (robotArg x).map some

def stateArg (x : Byte) : Option StatusState :=
  if x = 1 then some .ready else if x = 2 then some .working else if x = 3 then some .fault else none

/-- The validity test of R83. -/
def readStatus (x : Shuttle) (d : StatusBytes) : Option Status :=
  let garage := d.flags.getLsbD 0
  let row := rowArg d.position
  match stateArg d.state, loadArg d.load with
  | some st, some k =>
    if garage || x.serves row then some { state := st, row := row, garage := garage, load := k, fault := d.fault } else none
  | _, _ => none

/-- The place a status reports (R71). -/
def Status.place (st : Status) : Dest := if st.garage then .garage else .rowEnd st.row

/-! ## Steps that complete (R72) and the DONE of a transfer (R73) -/

/-- The target of a step (R72). -/
def Transfer.target (t : Transfer) : RunStep → Option Dest
  | .moveToSource | .loading => match t.source with | .rowEnd r => some (.rowEnd r) | .carried _ => none
  | .moveToDest => some t.dest
  | .unloading => match t.dest with | .rowEnd d => some (.rowEnd d) | .garage => none

/-- The load a step expects (R72). -/
def Transfer.expectedLoad (t : Transfer) : RunStep → Option RobotId
  | .moveToSource | .unloading => none
  | .loading | .moveToDest => some t.robot

/-- The status matches the running step (R72). -/
def Transfer.matches (t : Transfer) (x : RunStep) (st : Status) : Bool :=
  st.state == .ready && t.target x == some st.place && st.load == t.expectedLoad x

/-- A robot that moves onto a shuttle or off it keeps FAULTED (R63, R72, R73). -/
def keepFaulted (x : Robot) (m : RobotMode) : RobotMode := if x.mode = .faulted then .faulted else m

/-- The LOADING completion (R72): the robot is on the shuttle and the source end is free. -/
def Block.boarded (b : Block) (s : ShuttleId) (t : Transfer) : Block :=
  let b1 := b.modRobot t.robot fun x =>
    { x with mode := keepFaulted x .carried, location := .carried s, inGarage := false }
  let b2 := match t.source with
    | .rowEnd r => b1.modRow r fun x => { x with occupant := none }
    | .carried _ => b1
  b2.modShuttle s fun x => { x with load := some t.robot }

/-- Parts 1 to 3 of R73. -/
def Block.doneParts (b : Block) (s : ShuttleId) (t : Transfer) : Block :=
  let b1 := (b.cancel (.shuttleStep s)).modShuttle s fun x =>
    { x with queue := x.queue.filter fun z => z.tag != t.tag, current := none, mode := .idle, commandSent := false }
  match t.dest with
  | .rowEnd d =>
    ((b1.modShuttle s fun x => { x with load := none }).modRow d fun x =>
        { x with reservation := none, occupant := some t.robot }).modRobot t.robot fun x =>
      { x with location := .rowEnd d, transfer := none, mode := keepFaulted x .idle }
  | .garage =>
    b1.modRobot t.robot fun x =>
      { x with
        transfer := none, inGarage := true
        order := if b.weather = .start ∨ b.weather = .calm ∨ b.weather = .watch then .attend else x.order }

/-- A transfer becomes DONE (R73). Offers to the shuttle wait until part 5 (R67). -/
def Block.transferDone (b : Block) (s : ShuttleId) (t : Transfer) : Handed :=
  (b.doneParts s t,
    [.holdOffers s]
      ++ (match t.dest with | .rowEnd _ => [HandOn.rest t.robot] | .garage => [])
      ++ allRobots.map .chargeRetry ++ [.pass, .releaseOffers, .offer s])

/-- A matching status completes the running step, and the next one starts (R72). -/
def Block.completeStep (e : Env) (s : ShuttleId) (t : Transfer) (x : RunStep) (b : Block) : Handed :=
  match x with
  | .moveToSource => (b.startStep e s t .loading, [])
  | .loading => ((b.boarded s t).startStep e s t .moveToDest, [])
  | .moveToDest =>
    match t.dest with
    | .rowEnd _ => (b.startStep e s t .unloading, [])
    | .garage => b.transferDone s t
  | .unloading => b.transferDone s t

/-- A valid status of a MOVING or DOCKING shuttle (R71, R72). -/
def steppingStatus (e : Env) (s : ShuttleId) (counts : Bool) (st : Status) (b : Block) : Handed :=
  match (b.shuttle s).current.bind (b.shuttle s).record with
  | none => (if st.state = .fault then b.faultShuttle s .reported else b, [])
  | some t =>
    if st.state = .fault then (b.faultShuttle s .reported).failTransfer s t .shuttleFault
    else
      match t.step with
      | .running x => if counts && t.matches x st then b.completeStep e s t x else (b, [])
      | .queued | .inDoubt _ => (b, [])

/-- A valid status of an IDLE shuttle (R74). -/
def idleStatus (s : ShuttleId) (st : Status) (b : Block) : Handed :=
  if st.state = .fault then (b.faultShuttle s .reported, [])
  else if st.load ≠ (b.shuttle s).load then (b.faultShuttle s .loadUnknown, [])
  else (b, [])

/-! ## The reconciliation (R93 to R95) -/

/-- The QUEUED record of another robot bound for the garage (R78, check 3; R93). -/
def Shuttle.otherGarage (x : Shuttle) (k : RobotId) : Option Transfer :=
  x.queue.find? fun t => t.step == .queued && t.dest == .garage && t.robot != k

/-- The destination of a RECOVERY record (R93). -/
def recoveryDest (e : Env) (b : Block) (s : ShuttleId) (t : Transfer) (st : Status) : Option RowId :=
  let former := match t.source with
    | .rowEnd r => if (b.row r).endFree && (b.row r).locked.isNone && !(b.row r).reservedByOther t.robot then some r else none
    | .carried _ => none
  match former with
  | some r => some r
  | none => nearestRow st.row (cradleCandidates e b s)

/-- The loaded case of R93, after parts 1 to 4 of R75. -/
def Block.reconcileLoaded (e : Env) (s : ShuttleId) (t : Transfer) (st : Status) (b : Block) : Handed :=
  let k := t.robot
  let b1 := match t.source with
    | .rowEnd r => b.modRow r fun x => { x with occupant := if x.occupant = some k then none else x.occupant }
    | .carried _ => b
  let b2 := (b1.modRobot k fun x =>
      { x with mode := keepFaulted x .carried, location := .carried s, inGarage := st.garage }).modShuttle s
    fun x => { x with load := some k }
  if st.garage then
    let kept := t.origin.parkPriority && (b.storm || b.weather == .recover)
    let b3 := if kept then b2 else b2.setOrder k .attend
    (b3, match (b3.shuttle s).otherGarage k with | some z => [.failRecord s z.tag .link] | none => [])
  else
    match recoveryDest e b2 s t st, b2.freeTag with
    | some d, some u =>
      let z : Transfer :=
        { tag := u, robot := k, source := .carried s, dest := .rowEnd d, origin := .recovery, step := .queued }
      (((b2.modRow d fun x => { x with reservation := some u }).modRobot k fun x => { x with transfer := some u }).modShuttle
        s fun x => { x with queue := placeRecord z x.queue }, [])
    | _, _ => (b2.setOrder k .attend, [])

/-- The empty case of R94, on the block `c` in which the record has failed; the claims of the reported end are those that
stood `before`. -/
def reconcileEmpty (e : Env) (t : Transfer) (x : RunStep) (st : Status) (before c : Block) : Block :=
  let k := t.robot
  match x with
  | .moveToSource | .loading =>
    c.modRobot k fun z => { z with mode := if z.mode = .waitTransfer then .idle else z.mode }
  | .moveToDest | .unloading =>
    let y := before.row st.row
    if !st.garage && (e.row st.row).present && (y.endFree || y.reservation == some t.tag) then
      (c.modRow st.row fun z => { z with occupant := some k }).modRobot k fun z =>
        { z with location := .rowEnd st.row, inGarage := false, mode := keepFaulted z .idle }
    else
      c.modRobot k fun z =>
        { z with location := .unknown, inGarage := false, mode := keepFaulted z .idle, order := .attend }

/-- Step 1 of R95: the round planner takes the failure of a ROUND transfer. With no round held, a robot left CARRIED is
ordered ATTEND, as part 5 of R75 gives (log entry 17); one at a row end comes to rest in step 2. -/
def Block.reconcileRound (b : Block) (t : Transfer) : Handed :=
  match t.origin, (b.robot t.robot).round, (b.robot t.robot).location with
  | .round, some _, _ => b.settleFailed t.robot t.dest .link
  | .round, none, .carried _ => (b.setOrder t.robot .attend, [])
  | _, _, _ => (b, [])

/-- What R95 hands on, after the checks of R78. -/
def Block.reconcileHandOn (b : Block) (t : Transfer) : Handed :=
  let k := t.robot
  let (b1, h) := b.reconcileRound t
  match (b1.robot k).idleAt with
  | some _ => (b1, h ++ [.rest k])
  | none =>
    match (b1.robot k).location, t.origin with
    | .carried _, .charge | .unknown, .charge => (b1.modRobot k fun x => { x with chargeWait := true }, h)
    | .carried _, .park | .unknown, .park | .carried _, .recovery | .unknown, .recovery => (b1, h ++ [.wantPass])
    | _, _ => (b1, h)

/-- The IN_DOUBT transfer of a shuttle, with its doubted step. -/
def Shuttle.doubted (x : Shuttle) : Option (Transfer × RunStep) :=
  match x.current.bind x.record with
  | some t => match t.step with | .inDoubt y => some (t, y) | .queued | .running _ => none
  | none => none

/-- The reconciliation (R93, R94), before the checks of R78. -/
def reconcile (e : Env) (s : ShuttleId) (t : Transfer) (x : RunStep) (st : Status) (b : Block) : Handed :=
  let c := b.failParts s t .link
  if st.load = some t.robot then c.reconcileLoaded e s t st else (reconcileEmpty e t x st b c, [])

/-! ## The first status of a LOCAL shuttle (R78) -/

/-- The robot that stands CARRIED(s). R78 says "a robot k"; where more than one stands so, the lowest is taken (DESIGN CHOICE,
log entry 34). -/
def Block.carriedBy (b : Block) (s : ShuttleId) : Option RobotId :=
  allRobots.find? fun k => (b.robot k).location == .carried s

/-- Check 3 of R78: the row at whose end the reported robot stood when it boarded. -/
def Block.boardedFrom (b : Block) (s : ShuttleId) (k : RobotId) : Option RowId :=
  let x := b.robot k
  match x.location with
  | .rowEnd r =>
    if (x.mode = .idle ∨ x.mode = .faulted) ∧ x.transfer = none ∧ b.heldRow k = none ∧ (b.shuttle s).serves r = true
      then some r else none
  | .nowhere | .onRow _ | .carried _ | .unknown => none

/-- The shuttle becomes IDLE with a load (R78). -/
def Block.settleShuttle (b : Block) (s : ShuttleId) (load : Option RobotId) : Block :=
  b.modShuttle s fun x => { x with mode := .idle, load := load }

/-- The checks of R78. -/
def firstStatusChecks (s : ShuttleId) (st : Status) (b : Block) : Handed :=
  if st.state = .fault then (b.faultShuttle s .reported, [])
  else
    match st.load with
    | some k =>
      if (b.robot k).location = .carried s then (b.settleShuttle s (some k), [])
      else
        match b.boardedFrom s k with
        | some r =>
          let b1 := (b.modRobot k fun x =>
              { x with
                mode := keepFaulted x .carried, location := .carried s, inGarage := st.garage, order := .attend }).modRow r
            fun x => { x with occupant := none }
          (b1.settleShuttle s (some k),
            if st.garage then
              match (b.shuttle s).otherGarage k with
              | some z => [.failRecord s z.tag .lost]
              | none => []
            else [])
        | none => ((b.faultShuttle s .loadUnknown).modShuttle s fun x => { x with load := none }, [])
    | none =>
      match b.carriedBy s with
      | some k =>
        let b1 := b.modRobot k fun x =>
          { x with location := .unknown, inGarage := false, mode := keepFaulted x .idle, order := .attend }
        (b1.settleShuttle s none,
          match (b.robot k).transfer with
          | some t => [.failRecord s t .lost]
          | none => [])
      | none => (b.settleShuttle s none, [])

/-- The first valid status of a LOCAL shuttle (R78), with the reconciliation of an IN_DOUBT transfer before it (R93) and
its hand-on after it (R95). -/
def firstStatus (e : Env) (s : ShuttleId) (st : Status) (b : Block) : Handed :=
  match (b.shuttle s).doubted with
  | none =>
    let (b1, h) := firstStatusChecks s st b
    (b1, h ++ [.offer s])
  | some (t, x) =>
    let (b1, h1) := reconcile e s t x st b
    let (b2, h2) := firstStatusChecks s st b1
    let (b3, h3) := b2.reconcileHandOn t
    (b3, h1 ++ h2 ++ h3 ++ [.offer s])

/-! ## Completions (R71, R86) -/

/-- The completion of a command (R70): the poll due becomes the poll interval. Discarded for a FAULTED or OFFLINE
shuttle (R71). -/
def commandDone (e : Env) (s : ShuttleId) (b : Block) : Block :=
  if (b.shuttle s).mode = .faulted ∨ (b.shuttle s).mode = .offline then b
  else b.modShuttle s fun x => { x with pollDue := some e.params.pollInterval, commandSent := true }

/-- The completion of a STATUS (R71, R83): the fault code of a valid status is kept, the poll due and the position are
set, and the rule of the shuttle's state takes it. -/
def statusDone (e : Env) (s : ShuttleId) (counts : Bool) (d : StatusBytes) (b : Block) : Handed :=
  let st := readStatus (b.shuttle s) d
  let b0 := match st with
    | some v => b.modShuttle s fun x => { x with lastFault := v.fault }
    | none => b
  let mode := (b.shuttle s).mode
  if mode = .faulted ∨ mode = .offline then (b0, [])
  else
    let b1 := b0.modShuttle s fun x => { x with pollDue := some e.params.pollInterval }
    match st with
    | none => (b1, [])
    | some v =>
      let b2 := b1.modShuttle s fun x => { x with position := some v.place }
      match mode with
      | .moving | .docking => steppingStatus e s counts v b2
      | .idle => idleStatus s v b2
      | .localUnknown => firstStatus e s v b2
      | .offline | .faulted => (b2, [])

/-- The completion of the transaction in flight (R86). -/
def completeTransaction (e : Env) (d : StatusBytes) (b : Block) : Handed :=
  match b.link.inFlight with
  | none => (b, [])
  | some x =>
    let b1 := { b with link := { b.link with inFlight := none } }
    if x.discard then (b1, [])
    else if x.txn.op = .status then statusDone e x.shuttle x.txn.counts d b1
    else (commandDone e x.shuttle b1, [])

end Sys2Proof.Machine
end

