-- ==== Sys2Proof/Machine/Cascade.lean ====
section
/-! DEFINITION. The cascade: an event's hand-ons are taken one at a time until none is left. -/

namespace Sys2Proof.Machine

open Sys2Proof

/-- What a hand-on does. The four that only steer the cascade are taken by `cascade` itself. -/
def handle (e : Env) (t : HandOn) (b : Block) : Handed :=
  match t with
  | .rest k => comeToRest e k b
  | .giveTop k => giveTop k b
  | .chargeTop k => chargeTop e k b
  | .chargePush k => chargePush e k b
  | .chargePop k => chargePop e k b
  | .chargeRetry k => chargeRetry e k b
  | .handRound k => (handToRound e k b).2
  | .planRobot k => planRobot e k b
  | .pass => (b, parkPass b)
  | .offer s => b.offerWork e s
  | .failRecord s t why => b.failQueued s t why
  | .pushParks => (b.pushParks, [])
  | .releaseRows => (b.releaseAll e, [])
  | .assertStowd => ({ b with stowd := true }, [])
  | .strandRows => (b.strandHeld, [])
  | .deadlineRobot k => deadlineRobot e k b
  | .clearParkWaits => (b.clearParkWaits, [])
  | .calmRobot k => calmRobot k b
  | .recoverTest => recoverTest e b
  | .wantPass | .wantPlan _ | .holdOffers _ | .releaseOffers => (b, [])

/-- What an event still owes the park plan (R168): robots to be planned alone at its end, where it makes no pass; a pass at
its end; or nothing, its pass being made. -/
inductive Due where
  | plans (ks : List RobotId)
  | pass
  | made
  deriving DecidableEq, Repr

/-- A robot is to be planned alone. An event's pass stands in place of that plan, and is made after the robot's coming to
rest (R168). -/
def Due.withPlan (k : RobotId) : Due → Due
  | .plans ks => .plans (ks ++ [k])
  | .pass | .made => .pass

/-- The hand-ons of an event, taken in order, each followed at once by those it gives. `hold` is the shuttle whose offers
wait, and `due` is what is owed at the end (R168). None when the fuel runs out. -/
def cascade (e : Env) : Nat → Option ShuttleId → Due → List HandOn → Block → Option Block
  | 0, _, _, _, _ => none
  | n + 1, hold, due, ts, b =>
    match ts with
    | [] =>
      match due with
      | .plans [] | .made => some b
      | .plans ks => cascade e n hold (.plans []) (ks.map .planRobot) b
      | .pass => cascade e n hold .made (parkPass b) b
    | .wantPass :: rest => cascade e n hold .pass rest b
    | .wantPlan k :: rest => cascade e n hold (due.withPlan k) rest b
    | .holdOffers s :: rest => cascade e n (some s) due rest b
    | .releaseOffers :: rest => cascade e n none due rest b
    | .pass :: rest => cascade e n hold .made (parkPass b ++ rest) b
    | .offer s :: rest =>
      if hold = some s then cascade e n hold due rest b
      else cascade e n hold due ((b.offerWork e s).2 ++ rest) (b.offerWork e s).1
    | t :: rest => cascade e n hold due ((handle e t b).2 ++ rest) (handle e t b).1

/-- The most hand-ons of one event. Each failure of a record in a cascade removes a record that no rule puts back with the
same fault, so an event needs far fewer (log entry 6). -/
def cascadeFuel : Nat := 100000

/-- A block and its hand-ons, taken to their end. -/
def Handed.finish (e : Env) (x : Handed) : Option Block := cascade e cascadeFuel none (.plans []) x.2 x.1

end Sys2Proof.Machine
end

