-- ==== Sys2Proof/Machine/Requests.lean ====
section
/-! DEFINITION. How a frame is taken as a request (R182, R183), and how a meaning ends. -/

namespace Sys2Proof.Machine

open Sys2Proof

/-- What a step answers. -/
abbrev Result := Host.Outcome State Fault Refusal

/-- What a request's own rule gives: the state and the answer, or none when the cascade's bound is reached. -/
abbrev Served := Option (State × Answer)

/-- Nothing is taken while RESETn is asserted (R190). -/
def awake (s : State) (go : Result) : Result := if s.inReset then .next s else go

/-- The bytes shifted out in a frame that is no fetch: the status byte, and then zeros (R180). -/
def State.shiftStatus (s : State) (p : Port) : State :=
  let x := s.statusByte p
  s.modPort p fun z => { z with shifted := [x] }

/-- The port interface takes a request frame (R182, cases 5 and 6), and the owner's rule serves it. -/
def request (q : Request) (f : Frame) (s : State) (body : State → Served) : Result :=
  awake s
    (let s1 := s.shiftStatus f.port
     if s.freePlaces f.port = 0 then .next (s1.frameBits f.port true false)
     else
       let s2 := s1.frameBits f.port false false
       match portCheck q f s with
       | some c => .next (s2.reply f q.kind { code := c })
       | none =>
         match body s2 with
         | some (s3, a) => .next (s3.reply f q.kind a)
         | none => .fault .cascadeBound)

/-- A refusal: no state changes (R183). -/
def State.refuse (s : State) (c : Code) : Served := some (s, { code := c })

/-- The request's effect on the block with its hand-ons taken to their end, and its answer. -/
def State.serve (s : State) (x : Handed) (a : Answer) : Served :=
  (Handed.finish s.env x).map fun b => ({ s with blk := b }, a)

/-- An event of the part itself: its effect on the block with its hand-ons taken to their end. -/
def State.event (s : State) (x : Handed) : Result :=
  match Handed.finish s.env x with
  | some b => .next { s with blk := b }
  | none => .fault .cascadeBound

/-- The expiry of a deadline: it arises when its entry is due and next for its block, and the entry leaves the list
(R18, R19). Otherwise nothing happens (log entry 2). -/
def State.expiry (s : State) (kind : DeadlineKind) (rule : Block → Handed) : Result :=
  awake s (if s.blk.expires s.env kind then s.event (rule (s.blk.cancel kind)) else .next s)

end Sys2Proof.Machine
end

