-- ==== Sys2Proof/Machine/Accounts.lean ====
section
/-! DEFINITION. The yield accounts' commands (chapter 8): CLOSE_PERIOD, READ_PERIOD, READ_LIVE and RESET_ACCOUNTS. -/

namespace Sys2Proof.Machine

open Sys2Proof

/-- Steps 1 to 3 of R142. -/
def State.closePeriod (t : State) : State :=
  { t with closed := { bank := t.live, close := t.env.now, read := false }, live := Bank.opened t.env.now }

/-- CLOSE_PERIOD (R142). -/
def execClosePeriod (f : Frame) (s : State) : Result :=
  request .closePeriod f s fun t =>
    some (t.closePeriod, { code := .ok, payload := flagByte (!t.closed.read) :: bytesOf 4 t.env.now.toNat })

/-- The fields of the CLOSED bank in the order of R137, and the plant attention set (R144, R149). -/
def State.periodBytes (t : State) : List Byte :=
  t.closed.bank.bytes ++ bytesOf 4 t.closed.close.toNat ++ [flagByte t.closed.bank.saturated, flagByte t.closed.read]
    ++ t.plantItemBytes

/-- READ_PERIOD (R144): the reply is built before the read flag is set (R149). -/
def execReadPeriod (f : Frame) (s : State) : Result :=
  request .readPeriod f s fun t =>
    some ({ t with closed := { t.closed with read := true } }, { code := .ok, payload := t.periodBytes })

/-- READ_LIVE (R145, R149): no state changes. -/
def execReadLive (f : Frame) (s : State) : Result :=
  request .readLive f s fun t =>
    some (t,
      { code := .ok
        payload := t.live.bytes ++ [flagByte t.live.saturated] ++ bytesOf 4 t.env.now.toNat ++ t.plantItemBytes })

/-- The per-row figures that RESET ACCOUNTS clears (R146). -/
def RowData.clearAccounts (d : RowData) : RowData :=
  { d with loss := 0, recovered := 0, saturated := false, credit := 0 }

/-- An accepted RESET ACCOUNTS (R146). -/
def State.resetAccounts (t : State) : State :=
  { t with
    live := Bank.opened t.env.now
    closed := { bank := Bank.opened t.env.now, close := t.env.now, read := true }
    env := { t.env with data := mapAll t.env.data fun _ d => d.clearAccounts } }

/-- RESET_ACCOUNTS (R146). -/
def execResetAccounts (f : Frame) (s : State) : Result :=
  request .resetAccounts f s fun t => some (t.resetAccounts, { code := .ok, payload := [flagByte (!t.closed.read)] })

end Sys2Proof.Machine
end

