-- ==== Sys2Proof/Machine/Wind.lean ====
section
/-! DEFINITION. The wind monitor's commands (chapter 9): MAST_PULSE, MAST_STEP and READ_WEATHER. -/

namespace Sys2Proof.Machine

open Sys2Proof

/-! ## Pulses and samples (R152, R153) -/

def State.mast (s : State) : Mast → MastRec
  | .a => s.mastA
  | .b => s.mastB

def State.setMast (s : State) (m : Mast) (x : MastRec) : State :=
  match m with
  | .a => { s with mastA := x }
  | .b => { s with mastB := x }

def otherMast : Mast → Mast
  | .a => .b
  | .b => .a

/-- One edge (R152). -/
def MastRec.pulse (x : MastRec) : MastRec := { x with pulses := min 65535 (x.pulses + 1) }

/-- MAST_PULSE (R152); the counters are held cleared while RESETn is asserted (R190). -/
def execMastPulse (m : Mast) (s : State) : Result := awake s (.next (s.setMast m (s.mast m).pulse))

/-- The latch of a tick (R152, R153). -/
def MastRec.latch (x : MastRec) : MastRec :=
  { x with
    pulses := 0, pending := some x.pulses
    lost := if x.pending.isSome then min 65535 (x.lost + 1) else x.lost }

/-! ## The mast step (R154 to R157) -/

/-- The speed of a sample (R154). -/
def sampleSpeed (mf c : Nat) : Nat := min 1000 ((c * mf + 128) / 256)

/-- The speed and the health counts (R154, R155); `y` is the last speed of the other mast. -/
def MastRec.count (mf c y : Nat) (x : MastRec) : MastRec :=
  { x with
    pending := none
    speed := sampleSpeed mf c
    silence := if c = 0 ∧ 50 ≤ y then min 120 (x.silence + 1) else 0
    overrun := if c = 65535 then min 3 (x.overrun + 1) else 0
    recovery := if x.health = .faulted ∧ 0 < c ∧ c < 65535 then min 10 (x.recovery + 1) else 0 }

/-- The mast becomes FAULTED (R156). -/
def MastRec.fail (why : MastCause) (x : MastRec) : MastRec :=
  { x with
    health := .faulted, cause := some why, ring := [], sum := 0, window := [], gust := 0, silence := 0, overrun := 0
    recovery := 0 }

/-- The health change (R156). -/
def MastRec.settle (limit : Nat) (x : MastRec) : MastRec :=
  if x.health = .healthy ∧ 3 ≤ x.overrun then x.fail .overrun
  else if x.health = .healthy ∧ limit ≤ x.silence then x.fail .silent
  else if x.health = .faulted ∧ 10 ≤ x.recovery then { x with health := .healthy, silence := 0, overrun := 0, recovery := 0 }
  else x

/-- A list as a window of at most `n`: the oldest is removed when it is full (R157). -/
def enterWindow (n : Nat) (x : Nat) (w : List Nat) : List Nat := if n ≤ w.length then w.tail ++ [x] else w ++ [x]

/-- The value that leaves a full ring (R157). -/
def leaving (ring : List Nat) : Nat := if 60 ≤ ring.length then ring.headD 0 else 0

/-- The entry of the speed into ring and gust window, for a HEALTHY mast (R157). -/
def MastRec.enter (x : MastRec) : MastRec :=
  if x.health = .healthy then
    { x with
      ring := enterWindow 60 (x.speed * x.speed) x.ring
      sum := x.sum - leaving x.ring + x.speed * x.speed
      window := enterWindow 3 x.speed x.window
      gust := (enterWindow 3 x.speed x.window).foldl max 0 }
  else x

/-- A mast step on sample `c` (R154 to R157). -/
def MastRec.step (mf limit c y : Nat) (x : MastRec) : MastRec := ((x.count mf c y).settle limit).enter

/-- The mast factor of a mast (R160). -/
def Params.factor (p : Params) : Mast → Nat
  | .a => p.factorA
  | .b => p.factorB

/-- The mast the engine's arbiter serves (R117). -/
def State.servedMast (s : State) : Option (Mast × Nat) :=
  match s.mastA.pending, s.mastB.pending with
  | some c, _ => some (.a, c)
  | none, some c => some (.b, c)
  | none, none => none

/-! ## Levels (R158, R159) -/

/-- A HEALTHY mast meets a level with these thresholds (R158). -/
def MastRec.meets (gust sustained : Nat) (x : MastRec) : Bool :=
  x.health == .healthy
    && (decide (gust ≤ x.gust) || (x.ring.length == 60 && decide (60 * sustained * sustained ≤ x.sum)))

/-- The mast level (R158). -/
def MastRec.level (p : Params) (x : MastRec) : Level :=
  if x.meets p.stowGust p.stowSustained then .stow
  else if x.meets p.parkGust p.parkSustained then .park
  else if x.meets p.watchGust p.watchSustained then .watch
  else .none

/-- The block level (R159). -/
def blockLevel (p : Params) (a b : MastRec) : Level :=
  if a.health = .faulted ∧ b.health = .faulted then .park
  else if (a.level p).place < (b.level p).place then b.level p
  else a.level p

/-- The step brought the mast's ring count to 60 (R159). -/
def ringFilled (before after : MastRec) : Bool := before.ring.length != 60 && after.ring.length == 60

/-- The state after the step of mast `m` on sample `c`, before the level is handed. -/
def State.stepMast (s : State) (m : Mast) (c : Nat) : State :=
  s.setMast m
    ((s.mast m).step (s.env.params.factor m) s.env.params.silenceLimit c (s.mast (otherMast m)).speed)

/-- The block level that the masts and the thresholds give (R159). -/
def State.windLevel (s : State) : Level := blockLevel s.env.params s.mastA s.mastB

/-- MAST_STEP (R154, R159, R163). -/
def execMastStep (s : State) : Result :=
  awake s
    (match s.servedMast with
     | none => .next s
     | some (m, c) =>
       let u := s.stepMast m c
       u.event (handLevel u.env u.windLevel (ringFilled (s.mast m) (u.mast m)) u.blk))

/-! ## READ WEATHER (R161, R179) -/

/-- The wind fields of one mast (R161). -/
def mastBytes (p : Params) (x : MastRec) : List Byte :=
  [byteOf x.health.place, byteOf (mastCausePlace x.cause)] ++ bytesOf 2 x.speed ++ bytesOf 2 x.gust ++ bytesOf 4 x.sum
    ++ [byteOf x.ring.length, byteOf (x.level p).place, byteOf x.silence, byteOf x.overrun, byteOf x.recovery]
    ++ bytesOf 2 x.lost

/-- The wind fields of READ WEATHER: mast A, mast B, and the block level (R161). -/
def State.windBytes (s : State) : List Byte :=
  mastBytes s.env.params s.mastA ++ mastBytes s.env.params s.mastB ++ [byteOf s.windLevel.place]

/-- The number of enrolled robots holding a PARK task that `which` picks (R179). -/
def parkCount (b : Block) (which : Robot → Bool) : Nat :=
  (allRobots.filter fun k => (b.robot k).enrolled && (b.robot k).holdsPark && which (b.robot k)).length

/-- The weather fields (R179). -/
def weatherBytes (e : Env) (b : Block) : List Byte :=
  [byteOf b.weather.place, byteOf b.level.place, flagByte b.stowd, flagByte b.deadlinePassed]
    ++ bytesOf 2 (b.timeLeft e .parkDeadline) ++ bytesOf 2 (b.timeLeft e .calmHoldoff)
    ++ [byteOf (parkCount b fun _ => true), byteOf (parkCount b fun x => x.standing == .safe),
        byteOf (parkCount b fun x => x.standing == .unparked)]

/-- READ WEATHER taken from the plant port clears the weather-changed flag (R148). -/
def State.weatherRead (s : State) (p : Port) : State :=
  if p = .plant then { s with blk := { s.blk with weatherChanged := false } } else s

/-- READ_WEATHER (R161, R179). -/
def execReadWeather (f : Frame) (s : State) : Result :=
  request .readWeather f s fun t =>
    some (t.weatherRead f.port,
      { code := .ok
        payload := t.windBytes ++ weatherBytes t.env t.blk })

end Sys2Proof.Machine
end

