-- ==== Sys2Proof/Machine/Configure.lean ====
section
/-! DEFINITION. CONFIGURE and the parameter table (R188). -/

namespace Sys2Proof.Machine

open Sys2Proof

/-- The parameters with number `n` given the value `v`, and the value as stored; none for a number outside the table of
R188. -/
def Params.configure (p : Params) (n v : Nat) : Option (Params × Nat) :=
  let put := fun (lo hi : Nat) (set : Nat → Params) => some (set (clamp lo hi v), clamp lo hi v)
  match n with
  | 0x01 => put 0 65535 fun x => { p with lightFloor := x }
  | 0x02 => put 0 4 fun x => { p with smoothing := x }
  | 0x03 => put 0 4096 fun x => { p with thr1 := x }
  | 0x04 => put 0 4096 fun x => { p with thr2 := x }
  | 0x05 => put 0 4096 fun x => { p with thr3 := x }
  | 0x06 => put 0 4096 fun x => { p with tiltPenalty := x }
  | 0x07 => put 3600 2592000 fun x => { p with payback := x }
  | 0x08 => put 60 7200 fun x => { p with cleaningHold := x }
  | 0x09 => put 0 255 fun x => { p with creditWindow := x }
  | 0x0A => put 10 600 fun x => { p with confirmTimeout := x }
  | 0x0B => put 300 14400 fun x => { p with holdLimit := x }
  | 0x0C => put 1 8 fun x => { p with roundLength := x }
  | 0x0D => put 5 80 fun x => { p with chargeFloor := x, resumeLevel := max p.resumeLevel (x + 10) }
  | 0x0E => put (p.chargeFloor + 10) 100 fun x => { p with resumeLevel := x }
  | 0x0F => put 30 900 fun x => { p with stepTimeout := x }
  | 0x10 => put 1 10 fun x => { p with pollInterval := x }
  | 0x11 => put 1 4095 fun x => { p with factorA := x }
  | 0x12 => put 1 4095 fun x => { p with factorB := x }
  | 0x13 => put 0 1000 fun x => { p with watchGust := x }
  | 0x14 => put 0 1000 fun x => { p with watchSustained := x }
  | 0x15 => put 0 1000 fun x => { p with parkGust := x }
  | 0x16 => put 0 1000 fun x => { p with parkSustained := x }
  | 0x17 => put 0 1000 fun x => { p with stowGust := x }
  | 0x18 => put 0 1000 fun x => { p with stowSustained := x }
  | 0x19 => put 60 3600 fun x => { p with parkDeadline := x }
  | 0x1A => put 300 7200 fun x => { p with calmHoldoff := x }
  | 0x1B => put 10 120 fun x => { p with silenceLimit := x }
  | 0x1C => put 1 8 fun x => { p with bitPeriod := x }
  | _ => none

/-- The parameter is a wind threshold (R159; log entry 16). -/
def windThreshold (n : Nat) : Bool := decide (0x13 ≤ n ∧ n ≤ 0x18)

/-- CONFIGURE (R188, R159). -/
def execConfigure (f : Frame) (parameter : Byte) (value : BitVec 32) (s : State) : Result :=
  request .configure f s fun t =>
    match t.env.params.configure parameter.toNat value.toNat with
    | none => t.refuse .badValue
    | some (p, v) =>
      let u := { t with env := { t.env with params := p } }
      let a : Answer := { code := .ok, payload := bytesOf 4 v }
      if windThreshold parameter.toNat then u.serve (handLevel u.env u.windLevel false u.blk) a else some (u, a)

end Sys2Proof.Machine
end

