-- ==== Sys2Proof/Machine/Holds.lean ====
section
/-! DEFINITION. The hold controller's commands (chapter 2): locks, the tracker port's reports, ENTER_ROW and EXIT_ROW, and
the two expiries of holds. -/

namespace Sys2Proof.Machine

open Sys2Proof

/-! ## Locking and restoring (R39, R40) -/

/-- The row of an accepted LOCK ROW (R39). -/
def RowState.lock (x : RowState) : RowState := { x with locked := some .plant, cls := 0 }

/-- LOCK_ROW (R39). -/
def execLockRow (f : Frame) (r : RowId) (s : State) : Result :=
  request .lockRow f s fun t =>
    t.onRow r t.refuse (some ({ t with blk := t.blk.modRow r RowState.lock }, { code := .ok }))

/-- The row of an accepted RESTORE ROW, before its class is set anew (R40). -/
def RowState.restore (w : Weather) (x : RowState) : RowState :=
  let y := { x with locked := none }
  if y.tracker = .held ∧ y.holder = none then y.toReturn w else y

/-- The effect of RESTORE ROW on the block (R40). -/
def Block.restoreRow (e : Env) (b : Block) (r : RowId) : Block :=
  if (b.row r).locked.isSome then (b.modRow r (RowState.restore b.weather)).classAnew e r else b

/-- RESTORE_ROW (R40). -/
def execRestoreRow (f : Frame) (r : RowId) (s : State) : Result :=
  request .restoreRow f s fun t =>
    t.onRow r t.refuse (some ({ t with blk := t.blk.restoreRow t.env r }, { code := .ok }))

/-! ## The tracker attention set (R38) -/

/-- The rows of the set numbered `start` or above (R38). -/
def attentionFrom (e : Env) (b : Block) (start : RowId) : List (RowId × Action) :=
  (trackerAttention e b).filter fun x => start ≤ x.1

/-- The entries a FETCH ATTENTION lists: up to 32 (R38). -/
def attentionListed (e : Env) (b : Block) (start : RowId) : List (RowId × Action) := (attentionFrom e b start).take 32

/-- The reply of FETCH ATTENTION (R38, R187). -/
def attentionBytes (e : Env) (b : Block) (start : RowId) : List Byte :=
  let listed := attentionListed e b start
  [byteOf listed.length, flagByte (decide (32 < (attentionFrom e b start).length))]
    ++ listed.flatMap fun x => [byteOf x.1.val, x.2.byte]

/-- The resume notices that were listed are cleared (R36, R38). -/
def Block.takeNotices (e : Env) (b : Block) (start : RowId) : Block :=
  let listed := attentionListed e b start
  b.mapRows fun r x => if listed.contains (r, .resume) then { x with resumeWanted := false } else x

/-- FETCH_ATTENTION (R38). -/
def execFetchAttention (f : Frame) (start : RowId) (s : State) : Result :=
  request .fetchAttention f s fun t =>
    some ({ t with blk := t.blk.takeNotices t.env start }, { code := .ok, payload := attentionBytes t.env t.blk start })

/-! ## HOLD CONFIRM (R24, R108) -/

/-- The entered flag of robot `k`'s ACTIVE entry for row `r` is set (R108). -/
def Block.setEntered (b : Block) (k : RobotId) (r : RowId) : Block :=
  match (b.robot k).round with
  | none => b
  | some rd =>
    let rd' := rd.mapEntries (fun x => x.row == r && x.state == .active) fun x => { x with entered := true }
    b.modRobot k fun x => { x with stack := setRound rd' x.stack }

/-- The grant of a hold of row `r` to its holder `k` (R24). -/
def Block.grantHold (e : Env) (k : RobotId) (r : RowId) (b : Block) : Block :=
  let b1 := b.modRow r fun x => { x with tracker := .held, occupant := none }
  let b2 := b1.modRobot k fun z => { z with mode := keepFaulted z .onRow, location := .onRow r, order := .go r }
  ((b2.cancel (.holdConfirm k)).arm e (.holdLimit k) e.params.holdLimit).setEntered k r

/-- The row a late confirm leaves (R24). -/
def RowState.lateConfirm (x : RowState) : RowState :=
  if x.tracker = .tracking then { x with resumeWanted := true } else x

/-- HOLD_CONFIRM (R24). A granted robot that holds a PARK task is followed by a pass (R168). -/
def execHoldConfirm (f : Frame) (r : RowId) (s : State) : Result :=
  request .holdConfirm f s fun t =>
    t.onRow r t.refuse
      (match (t.blk.row r).tracker, (t.blk.row r).holder with
       | .holdPending, some k =>
         t.serve (t.blk.grantHold t.env k r, if (t.blk.robot k).holdsPark then [.pass] else []) { code := .ok }
       | _, _ => some ({ t with blk := t.blk.modRow r RowState.lateConfirm }, { code := .tooLate }))

/-! ## STOW DONE and UNSTOW DONE (R33) -/

/-- The row of an accepted STOW DONE (R33). -/
def RowState.stow (w : Weather) (x : RowState) : RowState :=
  let y := { x with tracker := .stowed }
  if w = .recover then y.toUnstow else y

/-- STOW_DONE (R33, R177). -/
def execStowDone (f : Frame) (r : RowId) (s : State) : Result :=
  request .stowDone f s fun t =>
    t.onRow r t.refuse
      (if (t.blk.row r).tracker = .stowReleased then
         t.serve (t.blk.modRow r (RowState.stow t.blk.weather), [.recoverTest]) { code := .ok }
       else t.refuse .state)

/-- The row of an accepted UNSTOW DONE (R33). -/
def RowState.unstow (x : RowState) : RowState := { x with tracker := if x.holder.isSome then .held else .tracking }

/-- What a storm does to the row after its UNSTOW DONE (R175). -/
def Block.afterUnstow (b : Block) (r : RowId) : Block :=
  let x := b.row r
  if b.storm ∧ x.tracker = .tracking ∧ x.holder = none then b.stowRelease r
  else if b.weather = .stow ∧ x.tracker = .held ∧ b.holderBraced x = false then b.modRow r RowState.strand
  else b

/-- UNSTOW_DONE (R33, R175, R177). -/
def execUnstowDone (f : Frame) (r : RowId) (s : State) : Result :=
  request .unstowDone f s fun t =>
    t.onRow r t.refuse
      (if (t.blk.row r).tracker = .unstowWanted then
         t.serve ((t.blk.modRow r RowState.unstow).afterUnstow r, [.recoverTest]) { code := .ok }
       else t.refuse .state)

/-! ## Tracker faults (R30, R31) -/

/-- The row of a fault that no hold is concerned in (R30). A fault-noted flag stands as it is (log entry 28). -/
def RowState.break (x : RowState) : RowState := { x with tracker := .faulted, resumeWanted := false, cls := 0 }

/-- The table of R30. -/
def rowFaulted (r : RowId) (b : Block) : Handed :=
  match (b.row r).tracker, (b.row r).holder with
  | .holdPending, some k => (b.cancel (.holdConfirm k)).endClaim k r true
  | _, _ =>
    match b.surfaceHolder r with
    | some _ => (b.modRow r fun x => { x with faultNoted := true, cls := 0 }, [])
    | none => (b.modRow r RowState.break, [])

/-- ROW_FAULT (R30, R108, R177). -/
def execRowFault (f : Frame) (r : RowId) (s : State) : Result :=
  request .rowFault f s fun t =>
    t.onRow r t.refuse (t.serve ((rowFaulted r t.blk).1, (rowFaulted r t.blk).2 ++ [.recoverTest]) { code := .ok })

/-- The row that leaves FAULTED (R31). -/
def RowState.repaired (storm : Bool) (x : RowState) : RowState :=
  { x with tracker := if storm then .stowReleased else .tracking, faultNoted := false }

/-- ROW_READY (R31). -/
def execRowReady (f : Frame) (r : RowId) (s : State) : Result :=
  request .rowReady f s fun t =>
    t.onRow r t.refuse
      (if (t.blk.row r).tracker = .faulted then
         some ({ t with blk := (t.blk.modRow r (RowState.repaired t.blk.storm)).classAnew t.env r }, { code := .ok })
       else if (t.blk.row r).faultNoted = true ∧ (t.blk.surfaceHolder r).isSome = true then
         some ({ t with blk := (t.blk.modRow r fun x => { x with faultNoted := false }).classAnew t.env r }, { code := .ok })
       else t.refuse .state)

/-! ## ENTER ROW and EXIT ROW (R22, R23, R29) -/

/-- ENTER_ROW (R22, R23). -/
def execEnterRow (f : Frame) (robot : Byte) (r : RowId) (s : State) : Result :=
  request .enterRow f s fun t =>
    t.onRow r t.refuse
      (onRobot robot t.refuse fun k =>
        match enterCheck t.blk k r with
        | some a => some (t, a)
        | none => some ({ t with blk := t.blk.claimRow t.env k r }, { code := .accepted }))

/-- The tracker state an exit leaves (R29); the row has no holder and no OVERSTAY or STRANDED mark any more. -/
def RowState.exited (w : Weather) (x : RowState) : RowState :=
  if x.tracker = .held then x.toReturn w
  else if x.faultNoted then { x with tracker := .faulted, faultNoted := false, resumeWanted := false, cls := 0 }
  else if w = .recover then x.toResume
  else x

/-- The row of an accepted EXIT ROW of robot `k`, before its class is set anew (R29). -/
def RowState.vacate (w : Weather) (k : RobotId) (x : RowState) : RowState :=
  RowState.exited w { x with holder := none, occupant := some k, overstay := false, stranded := false }

/-- The robot of an accepted EXIT ROW (R29). -/
def Robot.leaveRow (r : RowId) (z : Robot) : Robot :=
  { z with mode := .idle, location := .rowEnd r, order := if z.order = .exit then .none else z.order }

/-- An accepted EXIT ROW of robot `k` from row `r` (R29, R96, R109), with what follows it (R44, R168, R177). -/
def Block.exitRow (e : Env) (k : RobotId) (r : RowId) (b : Block) : Handed :=
  let b1 := (b.cancel (.holdLimit k)).modRow r (RowState.vacate b.weather k)
  let b2 := if (b.row r).stranded then b1.classAnew e r else b1
  let (b3, h) := (b2.modRobot k (Robot.leaveRow r)).settleEntry k r (fun z => z.state == .active && z.entered) .skipped
    (some .aborted)
  (b3, h ++ [.rest k, .pass, .recoverTest])

/-- EXIT_ROW (R29). -/
def execExitRow (f : Frame) (robot : Byte) (s : State) : Result :=
  request .exitRow f s fun t =>
    onRobot robot t.refuse fun k =>
      match (t.blk.robot k).ridingOn with
      | none => t.refuse .state
      | some r => t.serve (t.blk.exitRow t.env k r) { code := .ok }

/-! ## Expiries (R25, R28) -/

/-- HOLD_CONFIRM_EXPIRY (R25). -/
def execHoldConfirmExpiry (k : RobotId) (s : State) : Result := s.expiry (.holdConfirm k) (holdConfirmExpired k)

/-- HOLD_LIMIT_EXPIRY (R28). -/
def execHoldLimitExpiry (k : RobotId) (s : State) : Result := s.expiry (.holdLimit k) (holdLimitExpired k)

end Sys2Proof.Machine
end

