-- ==== Sys2Proof/Machine/Links.lean ====
section
/-! DEFINITION. The shuttle link's commands (chapter 5): LINK_RESUME, the CONTEND input, and the start and the completion
of a transaction. -/

namespace Sys2Proof.Machine

open Sys2Proof

/-- The resume of the link (R92): ENABLED, with a STATUS placed for every LOCAL shuttle. -/
def Block.resumeLink (b : Block) : Block :=
  (allShuttles.filter fun u => (b.shuttle u).mode == .localUnknown).foldl (fun c u => c.placeStatus u)
    { b with link := { b.link with enabled := true } }

/-- LINK_RESUME (R92). -/
def execLinkResume (f : Frame) (s : State) : Result :=
  request .linkResume f s fun t =>
    if t.contend = true ∨ t.blk.link.enabled = true then t.refuse .state
    else some ({ t with blk := t.blk.resumeLink }, { code := .ok })

/-- CONTEND_ASSERTED (R88): the input's rising edge latches the contention fault of an ENABLED link. While RESETn is
asserted only the level of the input moves (R190; log entry 23). -/
def execContendAsserted (s : State) : Result :=
  if s.contend then .next s
  else if s.inReset || !s.blk.link.enabled then .next { s with contend := true }
  else .next { s with contend := true, blk := s.blk.latch }

/-- CONTEND_DEASSERTED (R88): no effect on the link. -/
def execContendDeasserted (s : State) : Result := .next { s with contend := false }

/-- TRANSACTION_START (R85, R88). -/
def execTransactionStart (s : State) : Result :=
  awake s (.next { s with blk := s.blk.startTransaction s.env s.contend })

/-- TRANSACTION_COMPLETION (R86). -/
def execTransactionCompletion (data : StatusBytes) (s : State) : Result :=
  awake s (s.event (completeTransaction s.env data s.blk))

end Sys2Proof.Machine
end

