-- ==== Sys2Proof/Machine/Ports.lean ====
section
/-! DEFINITION. The frames that are no request (R182, R184, R189). -/

namespace Sys2Proof.Machine

open Sys2Proof

/-- The bytes of the oldest reply, or of the empty reply (R184). -/
def PortRec.oldestBytes (x : PortRec) : List Byte :=
  match x.replies with
  | y :: _ => y.bytes
  | [] => [0, 0, 0, 0]

/-- The bytes that a fetch frame of `n` whole bytes shifts out, the one begun at its end among them; every byte after them
is 0 (R180, R184). -/
def State.fetchBytes (s : State) (p : Port) (n : Nat) : List Byte :=
  (s.statusByte p :: 0 :: 0 :: (s.port p).oldestBytes).take (n + 1)

/-- FETCH (R184). A frame of fewer than three whole bytes is a status read (R182, case 2). -/
def execFetch (p : Port) (clocked : Nat) (s : State) : Result :=
  awake s
    (if clocked < 3 then .next (s.shiftStatus p)
     else
       let out := s.fetchBytes p clocked
       let s1 := s.modPort p fun z => { z with shifted := out }
       match (s.port p).replies with
       | [] => .next (s1.frameBits p false false)
       | x :: rest =>
         if 3 + x.bytes.length ≤ clocked then
           .next ((s1.modPort p fun z => { z with replies := rest }).frameBits p false false)
         else .next (s1.frameBits p false true))

/-- STATUS_READ (R182, case 2): nothing changes but what is shifted out, which is the status byte from its first bit on,
whatever the number of whole bytes (R180). -/
def execStatusRead (p : Port) (_bytes : Fin 3) (s : State) : Result := awake s (.next (s.shiftStatus p))

/-- TRUNCATED_FRAME (R182, case 4): discarded without reply; bit 4 is set and bit 5 cleared. -/
def execTruncatedFrame (p : Port) (s : State) : Result := awake s (.next ((s.shiftStatus p).frameBits p false true))

/-- UNKNOWN_REQUEST (R182, cases 5 and 6): NOT_HERE, or BAD_VALUE for a length above 250. A kind that R182 takes by
another case is another command (log entry 24). -/
def execUnknownRequest (f : Frame) (kind : Byte) (s : State) : Result :=
  if kind = fetchKind ∨ kind = portResetKind ∨ permittedKind f.port kind = true then .refused .notAnUnknownRequest
  else request { kind := kind, plant := false, tracker := false, fleet := false, len := none, row := false } f s
    fun t => t.refuse .notHere

/-- The reserved flag of a report is cleared (R122). -/
def Report.unreserve (x : Report) : Report := { x with reserved := false }

/-- PORT_RESET (R189, R122). -/
def execPortReset (p : Port) (s : State) : Result :=
  awake s
    (let s1 := ((s.shiftStatus p).modPort p fun z => { z with replies := [] }).frameBits p false false
     match p with
     | .plant => .next { s1 with inFlight := s1.inFlight.map Report.unreserve, waiting := s1.waiting.map Report.unreserve }
     | .tracker | .fleet => .next s1)

end Sys2Proof.Machine
end

