-- ==== Sys2Proof/Machine/Robots.lean ====
section
/-! DEFINITION. The robot table's commands (chapter 3): READ_ROBOT, enrolment, status reports, FETCH_ORDERS and
FLEET_RESET. -/

namespace Sys2Proof.Machine

open Sys2Proof

/-! ## Reading (R48, R49) -/

/-- The time remaining on the robot's HOLD_CONFIRM or HOLD_LIMIT entry (R20, R49). -/
def holdTimeLeft (e : Env) (b : Block) (k : RobotId) : Nat :=
  if b.armed (.holdConfirm k) then b.timeLeft e (.holdConfirm k) else b.timeLeft e (.holdLimit k)

/-- READ_ROBOT (R49): no state changes. -/
def execReadRobot (f : Frame) (robot : Byte) (s : State) : Result :=
  request .readRobot f s fun t =>
    onRobot robot t.refuse fun k =>
      some (t, { code := .ok, payload := robotBytes (t.blk.robot k) (holdTimeLeft t.env t.blk k) })

/-- The reply of FETCH ORDERS (R48). -/
def orderBytes (b : Block) : List Byte :=
  byteOf (fleetAttention b).length
    :: (fleetAttention b).flatMap fun k =>
      byteOf k.val :: ((b.robot k).order.bytes ++ (b.robot k).outcome.bytes ++ (b.robot k).location.bytes)

/-- The outcomes of the listed robots are cleared (R46, R48). -/
def Block.takeOutcomes (b : Block) : Block :=
  b.mapRobots fun _ x => if x.wanted then { x with outcome := .none } else x

/-- FETCH_ORDERS (R48). -/
def execFetchOrders (f : Frame) (s : State) : Result :=
  request .fetchOrders f s fun t =>
    some ({ t with blk := t.blk.takeOutcomes }, { code := .ok, payload := orderBytes t.blk })

/-! ## Enrolment (R50, R51) -/

/-- Checks 3 to 6 of R50. -/
def enrollCheck (b : Block) (k : RobotId) (r : RowId) : Option Code :=
  if (b.robot k).enrolled && (b.robot k).location != .unknown then some .state
  else if (b.row r).locked.isSome then some .state
  else if !(b.row r).endFree then some .endBusy
  else if (b.row r).reservedByOther k then some .reserved
  else none

/-- The robot of an accepted ENROLL (R50). A FAULTED robot at UNKNOWN becomes IDLE as the rule says. -/
def Robot.placed (storm : Bool) (r : RowId) (x : Robot) : Robot :=
  if x.mode = .absent then
    { x with mode := .idle, location := .rowEnd r, stack := if storm then .park :: x.stack else x.stack }
  else { x with mode := .idle, location := .rowEnd r, order := if x.order = .attend then .none else x.order }

/-- The placing of robot `k` at the end of row `r` (R50). -/
def Block.enroll (k : RobotId) (r : RowId) (b : Block) : Block :=
  (b.modRow r fun x => { x with occupant := some k }).modRobot k (Robot.placed b.storm r)

/-- ENROLL (R50). -/
def execEnroll (f : Frame) (robot : Byte) (r : RowId) (s : State) : Result :=
  request .enroll f s fun t =>
    t.onRow r t.refuse
      (onRobot robot t.refuse fun k =>
        match enrollCheck t.blk k r with
        | some c => t.refuse c
        | none => t.serve (t.blk.enroll k r, [.rest k]) { code := .ok })

/-- The effect of an accepted WITHDRAW (R51, R162). -/
def Block.withdraw (k : RobotId) (b : Block) : Block :=
  let b1 := match (b.robot k).location with
    | .rowEnd r => b.modRow r fun x => { x with occupant := none }
    | .nowhere | .onRow _ | .carried _ | .unknown => b
  b1.modRobot k fun _ => Robot.fresh

/-- WITHDRAW (R51). -/
def execWithdraw (f : Frame) (robot : Byte) (s : State) : Result :=
  request .withdraw f s fun t =>
    onRobot robot t.refuse fun k =>
      if (t.blk.robot k).mode = .idle ∧ (t.blk.robot k).stack = [] then
        some ({ t with blk := t.blk.withdraw k }, { code := .ok })
      else t.refuse .state

/-! ## Status reports (R52 to R58) -/

/-- Parts 1 and 2 of R52. -/
def Robot.report (battery : Byte) (ack : Option RowId) (x : Robot) : Robot :=
  { x with
    battery := min 100 battery.toNat
    order := match ack with
      | some r => if x.order = .go r then .none else x.order
      | none => x.order }

/-- The report of robot `k`, with the fault flag applied and the battery tests to follow (R52). -/
def Block.robotReport (k : RobotId) (battery : Byte) (fault : Bool) (ack : Option RowId) (b : Block) : Handed :=
  let b1 := b.modRobot k (Robot.report battery ack)
  let (b2, h) := if fault then faultReport k b1 else clearReport k b1
  (b2, h ++ [.chargePush k, .chargePop k])

/-- ROBOT_STATUS (R52). -/
def execRobotStatus (f : Frame) (robot battery : Byte) (fault : Bool) (ack : Option RowId) (s : State) : Result :=
  request .robotStatus f s fun t =>
    onRobot robot t.refuse fun k =>
      if (t.blk.robot k).mode = .absent then t.refuse .state
      else t.serve (t.blk.robotReport k battery fault ack) { code := .ok }

/-! ## Fleet reset (R60, R61) -/

/-- FLEET RESET locks the row: it had a holder or an end occupant (R61). -/
def RowState.claimed (x : RowState) : Bool := x.holder.isSome || x.occupant.isSome

/-- The claims and marks of a row after FLEET RESET (R61). -/
def RowState.unclaim (x : RowState) : RowState :=
  { x with
    holder := none, occupant := none, reservation := none, reservedBy := none
    overstay := x.overstay && x.holder.isNone
    stranded := x.stranded && x.holder.isNone }

/-- The tracker state of a row after FLEET RESET, its claims gone (R61). -/
def RowState.resetTracker (w : Weather) (y : RowState) : RowState :=
  match y.tracker with
  | .holdPending => y.toReturn w
  | .stowReleased | .stowed | .unstowWanted =>
    if y.faultNoted then { y with tracker := .faulted, faultNoted := false, cls := 0 }
    else if w = .recover then y.toResume
    else y
  | .tracking | .held | .faulted => y

/-- A present row after FLEET RESET (R61). -/
def RowState.fleetReset (w : Weather) (x : RowState) : RowState :=
  let y := x.unclaim.resetTracker w
  if x.claimed then { y with locked := some .fleetReset, cls := 0 } else y

/-- The number of rows FLEET RESET locks (R60). -/
def resetLocks (e : Env) (b : Block) : Nat :=
  (allRows.filter fun r => (e.row r).present && (b.row r).claimed).length

/-- The effect of FLEET RESET, before the test of R177 (R60, R61). -/
def Block.fleetReset (e : Env) (b : Block) : Block :=
  let b1 : Block :=
    { b with
      rows := mapAll b.rows fun r x => if (e.row r).present then x.fleetReset b.weather else x
      robots := Vector.replicate 24 Robot.fresh
      shuttles := mapAll b.shuttles fun _ x => { x with queue := [], current := none, load := none }
      link := { b.link with queue := Vector.replicate 4 none }
      deadlines := b.deadlines.filter fun d => !d.kind.fleetKey }
  (allShuttles.filter fun s => (b.shuttle s).range.isSome).foldl (fun c s => c.makeLocal s) b1

/-- FLEET_RESET (R60, R61, R177). -/
def execFleetReset (f : Frame) (s : State) : Result :=
  request .fleetReset f s fun t =>
    t.serve (t.blk.fleetReset t.env, [.recoverTest]) { code := .ok, payload := bytesOf 2 (resetLocks t.env t.blk) }

end Sys2Proof.Machine
end

