-- ==== Sys2Proof/Machine/Rounds.lean ====
section
/-! DEFINITION. The round planner's commands (chapter 6): REQUEST_WORK, CLEAN_DONE and CLEAN_ABORT. -/

namespace Sys2Proof.Machine

open Sys2Proof

/-! ## Asking for work (R101 to R103) -/

/-- Checks 2 to 4 of R101: the robot's row, or the outcome. -/
def workCheck (e : Env) (b : Block) (k : RobotId) : Except Code RowId :=
  let x := b.robot k
  if b.weather ≠ .calm then .error .weather
  else
    match x.idleAt with
    | none => .error .state
    | some p =>
      if x.stack ≠ [] then .error .state
      else if x.battery < e.params.chargeFloor then .error .battery
      else .ok p

/-- REQUEST_WORK (R101 to R103): the reply carries the round as it stands after the start of its first entry. -/
def execRequestWork (f : Frame) (robot : Byte) (s : State) : Result :=
  request .requestWork f s fun t =>
    onRobot robot t.refuse fun k =>
      match workCheck t.env t.blk k with
      | .error c => t.refuse c
      | .ok p =>
        match sweepRows t.env t.blk p t.env.params.roundLength with
        | [] => t.refuse .noWork
        | r :: rest =>
          let x := handToRound t.env k (t.blk.buildRound k p (r :: rest))
          t.serve x.2 { code := .ok, payload := match x.1 with | some rd => rd.bytes | none => [] }

/-! ## Cleaning results (R111, R113) -/

/-- The soiling, cleaning and account fields of a cleaned row (R111, R136). -/
def RowData.cleaned (e : Env) (d : RowData) : RowData :=
  { d with
    fPre := d.f, ss := 0, loss := 0, recovered := 0, saturated := false, credit := e.params.creditWindow
    lastCleaned := some e.now }

/-- CLEAN_DONE (R111). -/
def execCleanDone (f : Frame) (robot : Byte) (s : State) : Result :=
  request .cleanDone f s fun t =>
    onRobot robot t.refuse fun k =>
      match (t.blk.robot k).ridingOn with
      | none => t.refuse .state
      | some r =>
        let u := { t with env := t.env.modRow r (RowData.cleaned t.env) }
        u.serve ((t.blk.modRow r fun x => { x with cls := 0 }).settleEntry k r Entry.isOpen .done none) { code := .ok }

/-- CLEAN_ABORT (R113). -/
def execCleanAbort (f : Frame) (robot : Byte) (s : State) : Result :=
  request .cleanAbort f s fun t =>
    onRobot robot t.refuse fun k =>
      match (t.blk.robot k).ridingOn with
      | none => t.refuse .state
      | some r => t.serve (t.blk.settleEntry k r Entry.isOpen .skipped (some .aborted)) { code := .ok }

end Sys2Proof.Machine
end

