-- ==== Sys2Proof/Machine/RowTable.lean ====
section
/-! DEFINITION. The row table's requests: READ_ROW, MAP_BAY, SET_SHUTTLE and SET_TIME (chapter 1; R135). -/

namespace Sys2Proof.Machine

open Sys2Proof

/-- READ_ROW (R135): the whole record; only the model's count of free values moves. -/
def execReadRow (f : Frame) (r : RowId) (s : State) : Result :=
  request .readRow f s fun t =>
    t.onRow r t.refuse
      (some ({ t with freeSeed := t.freeSeed + 1 },
        { code := .ok
          payload := rowBytes r (t.env.row r) (t.blk.row r) (Config.neverCleanedBytes t.freeSeed)
            (Config.unlockedCauseBit t.freeSeed) }))

/-! ## MAP BAY (R7 to R9) -/

/-- The entry of a bay for one of its rows. -/
def bayEntry (entries : Vector PlaceEntry 16) (r : RowId) : PlaceEntry := entries[(Fin.ofNat 16 r.val)]

/-- The kc of an entry as stored (R8). -/
def kcStored (x : PlaceEntry) : Nat := clamp 2048 6144 x.kc.toNat

/-- The `RowData` that MAP BAY loads (R8). -/
def loadedData (b : Block) (entries : Vector PlaceEntry 16) (r : RowId) : RowData :=
  let x := bayEntry entries r
  { RowData.fresh with
    present := x.present, cradle := x.present && x.cradle, kc := kcStored x, shuttle := b.rangeShuttle r }

/-- The `RowState` that MAP BAY loads: the values of R1, and in PARK and STOW the release of a present row (R9). -/
def loadedState (b : Block) (entries : Vector PlaceEntry 16) (r : RowId) : RowState :=
  if b.storm && (bayEntry entries r).present then RowState.fresh.toRelease false else RowState.fresh

/-- An accepted MAP BAY (R8, R9). -/
def State.loadBay (s : State) (bay : Bay) (entries : Vector PlaceEntry 16) : State :=
  { s with
    mapLoaded := true
    env := { s.env with data := mapAll s.env.data fun r d => if r.val / 16 = bay.val then loadedData s.blk entries r else d }
    blk := s.blk.mapRows fun r x => if r.val / 16 = bay.val then loadedState s.blk entries r else x }

/-- The two counts of R8: entries present, and kc values clamped. -/
def bayCounts (entries : Vector PlaceEntry 16) : List Byte :=
  [byteOf (entries.toList.filter PlaceEntry.present).length,
    byteOf (entries.toList.filter fun x => kcStored x != x.kc.toNat).length]

/-- MAP_BAY (R7 to R9). In RECOVER the test of R177 follows, since rows' tracker states change (log entry 19). -/
def execMapBay (f : Frame) (bay : Byte) (entries : Vector PlaceEntry 16) (s : State) : Result :=
  request .mapBay f s fun t =>
    match bayArg bay with
    | none => t.refuse .badValue
    | some b =>
      if t.blk.anyEnrolled then t.refuse .state
      else
        let u := t.loadBay b entries
        u.serve (u.blk, [.recoverTest]) { code := .ok, payload := bayCounts entries }

/-! ## SET SHUTTLE (R11, R12) -/

/-- The range a SET SHUTTLE gives: none within, or none at all when its bays are not a run of bays (R11, check 1). -/
def rangeArg (first last : Byte) : Option (Option (Bay × Bay)) :=
  if first = 0xFF ∧ last = 0xFF then some none
  else
    match bayArg first, bayArg last with
    | some lo, some hi => if lo ≤ hi then some (some (lo, hi)) else none
    | _, _ => none

/-- Two ranges share a bay. -/
def rangesMeet : Option (Bay × Bay) → Option (Bay × Bay) → Bool
  | some (a, b), some (c, d) => decide (a ≤ d ∧ c ≤ b)
  | _, _ => false

/-- The bay of a row lies in a range. -/
def inRange (r : RowId) : Option (Bay × Bay) → Bool
  | some (lo, hi) => decide (lo.val ≤ r.val / 16 ∧ r.val / 16 ≤ hi.val)
  | none => false

/-- The range is shared with another shuttle's current range (R11, check 3). -/
def Block.rangeTaken (b : Block) (s : ShuttleId) (given : Option (Bay × Bay)) : Bool :=
  allShuttles.any fun u => u != s && rangesMeet given (b.shuttle u).range

/-- A shuttle given no range (R12, R84, R86; log entry 15). -/
def Block.makeOffline (b : Block) (s : ShuttleId) : Block :=
  ((b.modShuttle s fun x =>
      { x with mode := .offline, position := none, pollDue := none, cause := none, commandSent := false }).discardFlight
    s).withdrawLink s

/-- The shuttle fields derived anew for the rows of the old and the new range (R3, R12). -/
def rederive (b : Block) (old given : Option (Bay × Bay)) (data : Vector RowData 256) : Vector RowData 256 :=
  mapAll data fun r d => if inRange r old || inRange r given then { d with shuttle := b.rangeShuttle r } else d

/-- An accepted SET SHUTTLE (R12). -/
def State.setRange (t : State) (s : ShuttleId) (given : Option (Bay × Bay)) : State :=
  let b := t.blk.modShuttle s fun x => { x with range := given }
  { t with
    env := { t.env with data := rederive b (t.blk.shuttle s).range given t.env.data }
    blk := if given.isSome then b.makeLocal s else b.makeOffline s }

/-- SET_SHUTTLE (R11, R12). -/
def execSetShuttle (f : Frame) (shuttle first last : Byte) (s : State) : Result :=
  request .setShuttle f s fun t =>
    match shuttleArg shuttle, rangeArg first last with
    | some u, some given =>
      if t.blk.anyEnrolled then t.refuse .state
      else if t.blk.rangeTaken u given then t.refuse .badValue
      else some (t.setRange u given, { code := .ok })
    | _, _ => t.refuse .badValue

/-- An accepted SET TIME (R14): every due time moves with the counter. -/
def State.setNow (s : State) (v : FarmSecond) : State :=
  { s with
    env := { s.env with now := v }
    blk := { s.blk with deadlines := s.blk.deadlines.map fun d => { d with due := d.due + (v - s.env.now) } } }

/-- SET_TIME (R14). -/
def execSetTime (f : Frame) (v : FarmSecond) (s : State) : Result :=
  request .setTime f s fun t => some (t.setNow v, { code := .ok })

end Sys2Proof.Machine
end

