-- ==== Sys2Proof/Machine/Soiling.lean ====
section
/-! DEFINITION. The arithmetic unit's commands on rows (chapter 7): OUTPUT_REPORT, ROW_STEP and CALIBRATE_ROW, with the
additions to the LIVE bank (chapter 8). -/

namespace Sys2Proof.Machine

open Sys2Proof

/-! ## Output reports (R118, R119) -/

/-- The T of a report as used: clamped to 900 (R118). -/
def usedT (t : BitVec 16) : Nat := min 900 t.toNat

/-- The record made at acceptance (R119). -/
def newReport (tag : Byte) (pref t : BitVec 16) (pairs : List (RowId × BitVec 16)) : Report :=
  { tag := tag, pref := pref.toNat, t := usedT t, pairs := pairs, next := 1, processed := 0, skipped := 0,
    lowLight := false, reserved := true }

/-- The record takes a free slot: in flight when no report is, and waiting otherwise (R119). -/
def State.takeSlot (s : State) (x : Report) : State :=
  if s.inFlight.isNone then { s with inFlight := some x } else { s with waiting := some x }

/-- Checks 2 to 4 of R118. -/
def reportCheck (f : Frame) (t : BitVec 16) (n : Byte) (pairs : List (RowId × BitVec 16)) (s : State) : Option Code :=
  if n.toNat < 1 ∨ 64 < n.toNat ∨ f.len.toNat ≠ 5 + 3 * n.toNat ∨ pairs.length ≠ n.toNat then some .badValue
  else if t = 0 then some .badValue
  else if s.slotFree = false ∨ s.freePlaces .plant < 2 then some .busy
  else none

/-- OUTPUT_REPORT (R118, R119). -/
def execOutputReport (f : Frame) (pref t : BitVec 16) (n : Byte) (pairs : List (RowId × BitVec 16)) (s : State) : Result :=
  request .outputReport f s fun u =>
    match reportCheck f t n pairs u with
    | some c => u.refuse c
    | none =>
      some (u.takeSlot (newReport f.tag pref t pairs),
        { code := .accepted, payload := bytesOf 2 (usedT t) ++ [flagByte (decide (900 < t.toNat))] })

/-! ## The stages of a row step (R123 to R131) -/

/-- Stage B: the expected output (R124). -/
def expectedOutput (pref kc : Nat) : Nat := (pref * kc + 2048) / 4096

/-- Stage E: one smoothed figure (R126). -/
def smooth (m old fresh : Nat) : Nat := if m = 0 then fresh else ((2 ^ m - 1) * old + fresh + 2 ^ (m - 1)) / 2 ^ m

/-- Stage F: the soiling fraction (R127). -/
def fraction (f ss es : Nat) : Nat := if es = 0 then f else min 4096 ((ss * 4096 + es / 2) / es)

/-- The tracker states that disturb a row whatever its hold seconds (R125). -/
def Tracker.disturbs : Tracker → Bool
  | .held | .stowReleased | .stowed | .unstowWanted | .faulted => true
  | .tracking | .holdPending => false

/-- Stage D: the held seconds counted (R125). -/
def heldSeconds (t : Nat) (d : RowData) : Nat := min d.holdSeconds t

/-- Stage D: the row is disturbed (R125). -/
def rowDisturbed (t : Nat) (d : RowData) (x : RowState) : Bool := decide (0 < heldSeconds t d) || x.tracker.disturbs

/-- Stage H: the recovered share of an output, while credit stands (R129). -/
def recoveredShare (d : RowData) (e s : Nat) : Nat := if 0 < d.credit then (e * d.fPre + 2048) / 4096 - s else 0

/-- Stages E, F and H of an undisturbed row, for expected output `e` and shortfall `s` (R126, R127, R129, R132). -/
def RowData.undisturbed (p : Params) (restart : Bool) (t e s : Nat) (d : RowData) : RowData :=
  let m := if restart then 0 else p.smoothing
  let ss := smooth m d.ss s
  let es := smooth m d.es e
  let loss := addSat top48 d.loss (s * t)
  let won := addSat top48 d.recovered (recoveredShare d e s * t)
  { d with
    ss := ss, es := es, f := fraction d.f ss es, loss := loss.1, recovered := won.1, credit := d.credit - 1
    saturated := d.saturated || loss.2 || won.2, holdSeconds := 0 }

/-- Stage I: the hold cost of a disturbed row (R130). -/
def holdCostOf (p : Params) (e h : Nat) : Nat := (e * p.tiltPenalty + 2048) / 4096 * h

/-! ## Additions to a bank (R138, R140) -/

def Bank.addGain (n : Nat) (x : Bank) : Bank :=
  { x with gain := (addSat top48 x.gain n).1, saturated := x.saturated || (addSat top48 x.gain n).2 }
def Bank.addLoss (n : Nat) (x : Bank) : Bank :=
  { x with loss := (addSat top48 x.loss n).1, saturated := x.saturated || (addSat top48 x.loss n).2 }
def Bank.addRecovered (n : Nat) (x : Bank) : Bank :=
  { x with recovered := (addSat top48 x.recovered n).1, saturated := x.saturated || (addSat top48 x.recovered n).2 }
def Bank.addHoldCost (n : Nat) (x : Bank) : Bank :=
  { x with holdCost := (addSat top48 x.holdCost n).1, saturated := x.saturated || (addSat top48 x.holdCost n).2 }

/-- The storm second of a tick (R139). -/
def Bank.addStorm (x : Bank) : Bank :=
  { x with
    stormSeconds := (addSat (2 ^ 32 - 1) x.stormSeconds 1).1
    saturated := x.saturated || (addSat (2 ^ 32 - 1) x.stormSeconds 1).2 }

/-- A completed report (R121, R138). -/
def Bank.countReport (low : Bool) (x : Bank) : Bank :=
  let a := addSat 65535 x.reports 1
  let b := addSat 65535 x.lowLight (if low then 1 else 0)
  { x with reports := a.1, lowLight := b.1, saturated := x.saturated || a.2 || b.2 }

/-! ## The row step (R120, R121) -/

/-- What a row step of a present, lit row leaves (R124 to R131): the row's two records and the LIVE bank. -/
def litStep (p : Params) (x : Report) (pm : Nat) (d : RowData) (y : RowState) (bank : Bank) : RowData × RowState × Bank :=
  let e := expectedOutput x.pref d.kc
  let s := e - pm
  let lit := bank.addGain ((pm - e) * x.t)
  if rowDisturbed x.t d y then
    let d' := { d with holdSeconds := 0 }
    (d', { y with cls := classTest p d' y }, lit.addHoldCost (holdCostOf p e (heldSeconds x.t d)))
  else
    let d' := d.undisturbed p y.restart x.t e s
    (d', { y with restart := false, cls := classTest p d' y },
      (lit.addLoss (s * x.t)).addRecovered (recoveredShare d e s * x.t))

/-- The report after a step of its next pair. -/
def Report.stepped (present low : Bool) (x : Report) : Report :=
  { x with
    next := x.next + 1, processed := if present then x.processed + 1 else x.processed
    skipped := if present then x.skipped else x.skipped + 1, lowLight := x.lowLight || low }

/-- The stages of a row step on row `r` with measured output `pm` (R120, R123). -/
def State.stepRow (s : State) (x : Report) (r : RowId) (pm : Nat) : State × Report :=
  let d := s.env.row r
  if !d.present then (s, x.stepped false false)
  else if x.pref < s.env.params.lightFloor then
    ({ s with env := s.env.modRow r fun z => { z with holdSeconds := 0 } }, x.stepped true true)
  else
    let (d', y', bank) := litStep s.env.params x pm d (s.blk.row r) s.live
    ({ s with env := s.env.modRow r fun _ => d', blk := s.blk.modRow r fun _ => y', live := bank }, x.stepped true false)

/-- The completion reply of a report (R121, R184). -/
def Report.completion (x : Report) : Reply :=
  { tag := x.tag, kind := Request.outputReport.kind, outcome := Code.ok.byte
    payload := [byteOf x.processed, byteOf x.skipped, flagByte x.lowLight] ++ bytesOf 2 x.t }

/-- The completion of the report in flight (R121, R122). -/
def State.completeReport (s : State) (x : Report) : State :=
  { s with
    inFlight := s.waiting, waiting := none, live := s.live.countReport x.lowLight
    plant := if x.reserved then { s.plant with replies := s.plant.replies ++ [x.completion] } else s.plant }

/-- The state after a step, whose report is `x`: completed after its last pair, and kept in flight otherwise. -/
def State.afterStep (s : State) (x : Report) : State :=
  if x.pairs.length < x.next then s.completeReport x else { s with inFlight := some x }

/-- ROW_STEP (R120), taken when no mast sample waits (R117; log entry 26). -/
def execRowStep (s : State) : Result :=
  awake s
    (if s.mastA.pending.isSome || s.mastB.pending.isSome then .next s
     else
       match s.inFlight with
       | none => .next s
       | some x =>
         match x.pairs[x.next - 1]? with
         | none => .next s
         | some (r, pm) => .next ((s.stepRow x r pm.toNat).1.afterStep (s.stepRow x r pm.toNat).2))

/-! ## Calibration (R134) -/

/-- The soiling figures of a calibrated row (R134). -/
def RowData.calibrate (kc : Nat) (d : RowData) : RowData := { d with kc := kc, ss := 0, es := 0, f := 0 }

/-- An accepted CALIBRATE ROW (R134). -/
def State.calibrate (t : State) (r : RowId) (kc : Nat) : State :=
  let e := t.env.modRow r (RowData.calibrate kc)
  { t with env := e, blk := (t.blk.modRow r fun x => { x with restart := true }).classAnew e r }

/-- CALIBRATE_ROW (R134). -/
def execCalibrateRow (f : Frame) (r : RowId) (kc : BitVec 16) (s : State) : Result :=
  request .calibrateRow f s fun t =>
    t.onRow r t.refuse
      (some (t.calibrate r (clamp 2048 6144 kc.toNat),
        { code := .ok
          payload := bytesOf 2 (clamp 2048 6144 kc.toNat) ++ [flagByte (clamp 2048 6144 kc.toNat != kc.toNat)] }))

end Sys2Proof.Machine
end

