-- ==== Sys2Proof/Machine/Storm.lean ====
section
/-! DEFINITION. The weather controller's commands (chapter 10): BRACED, UNBRACED and the two weather expiries. -/

namespace Sys2Proof.Machine

open Sys2Proof

/-! ## BRACED (R173) -/

/-- Check 4 of R173. -/
def braceAllowed (b : Block) (k : RobotId) : Bool :=
  let x := b.robot k
  !(allRows.any fun r => (b.row r).holder == some k && (b.row r).tracker == .holdPending)
    && (match x.mode, x.location with
        | .idle, .rowEnd _ | .onRow, .onRow _ | .faulted, .rowEnd _ | .faulted, .onRow _ => true
        | _, _ => false)

/-- The robot of an accepted BRACED (R173). -/
def Robot.brace (storm : Bool) (x : Robot) : Robot :=
  { x with
    mode := .braced
    faultPending := x.faultPending || x.mode == .faulted
    parkWait := false
    order := if storm then (if x.order = .brace then .none else x.order) else .unbrace }

/-- An accepted BRACED (R173). -/
def Block.brace (k : RobotId) (b : Block) : Block :=
  let b1 := b.modRobot k (Robot.brace b.storm)
  match b1.heldRow k with
  | some r => if b.storm then b1.stowRelease r else b1
  | none => b1

/-- BRACED (R173, R168, R177). -/
def execBraced (f : Frame) (robot : Byte) (s : State) : Result :=
  request .braced f s fun t =>
    onRobot robot t.refuse fun k =>
      if (t.blk.robot k).mode = .absent then t.refuse .state
      else if (t.blk.robot k).mode = .braced then some (t, { code := .ok })
      else if braceAllowed t.blk k then t.serve (t.blk.brace k, [.pass, .recoverTest]) { code := .ok }
      else t.refuse .state

/-! ## UNBRACED (R174) -/

/-- The row the robot holds is STOWED (R174). -/
def Block.holdsStowed (b : Block) (k : RobotId) : Bool :=
  match b.heldRow k with
  | some r => (b.row r).tracker == .stowed
  | none => false

/-- The robot of an accepted UNBRACED; `held` is the row it holds (R174, R55). -/
def Robot.unbrace (held : Option RowId) (x : Robot) : Robot :=
  { x with
    mode := if x.faultPending then .faulted else if held.isSome then .onRow else .idle
    location := match held with | some r => .onRow r | none => x.location
    faultPending := false
    order := if x.order = .unbrace then .none else x.order }

/-- An accepted UNBRACED, with what follows it (R174, R44, R168, R177). -/
def Block.unbrace (k : RobotId) (b : Block) : Handed :=
  match b.heldRow k with
  | some r => ((b.modRow r RowState.toHold).modRobot k (Robot.unbrace (some r)), [.pass, .recoverTest])
  | none => (b.modRobot k (Robot.unbrace none), [.rest k, .pass, .recoverTest])

/-- UNBRACED (R174). -/
def execUnbraced (f : Frame) (robot : Byte) (s : State) : Result :=
  request .unbraced f s fun t =>
    onRobot robot t.refuse fun k =>
      if (t.blk.robot k).mode ≠ .braced then t.refuse .state
      else if t.blk.holdsStowed k then t.refuse .state
      else t.serve (t.blk.unbrace k) { code := .ok }

/-! ## Expiries (R165, R172) -/

/-- PARK_DEADLINE_EXPIRY (R172). -/
def execParkDeadlineExpiry (s : State) : Result := s.expiry .parkDeadline parkDeadlineExpired

/-- CALM_HOLDOFF_EXPIRY (R165). -/
def execCalmHoldoffExpiry (s : State) : Result := s.expiry .calmHoldoff (calmHoldoffExpired s.env)

end Sys2Proof.Machine
end

