-- ==== Sys2Proof/Machine/Time.lean ====
section
/-! DEFINITION. The time base's tick (R13, R18, R27, R71, R139, R152) and the reset pin (R190). -/

namespace Sys2Proof.Machine

open Sys2Proof

/-! ## What the tick before left (log entry 3) -/

/-- The rule that takes an expiry (R18). -/
def expiryRule (e : Env) : DeadlineKind → Block → Handed
  | .holdConfirm k => holdConfirmExpired k
  | .holdLimit k => holdLimitExpired k
  | .shuttleStep s => shuttleStepExpired s
  | .parkDeadline => parkDeadlineExpired
  | .calmHoldoff => calmHoldoffExpired e

/-- Every entry that is due is handed out, from the head of the list, at most `n` of them (R18, R19). -/
def handOut (e : Env) : Nat → Block → Option Block
  | 0, b => some b
  | n + 1, b =>
    match b.deadlines.find? fun d => d.remaining e.now == 0 with
    | none => some b
    | some d => (Handed.finish e (expiryRule e d.kind (b.cancel d.kind))).bind (handOut e n)

/-- The expiries and polls that fell due at the tick before and were not taken yet. -/
def Block.catchUp (e : Env) (b : Block) : Option Block :=
  (handOut e b.deadlines.length b).map fun c => allShuttles.foldl (fun x s => x.takePoll s) c

/-! ## The tick (R13) -/

/-- The hold seconds of a row at a tick (R27). -/
def RowData.tick (x : RowState) (d : RowData) : RowData :=
  if x.tracker = .held then { d with holdSeconds := min 65535 (d.holdSeconds + 1) } else d

/-- The polls due fall by 1 (R71). -/
def Shuttle.tick (x : Shuttle) : Shuttle := { x with pollDue := x.pollDue.map fun n => n - 1 }

/-- The tick itself, on a state with nothing left of the tick before. -/
def State.tick (s : State) : State :=
  { s with
    env := { s.env with
      now := s.env.now + 1
      data := mapAll s.env.data fun r d => d.tick (s.blk.row r) }
    blk := { s.blk with shuttles := mapAll s.blk.shuttles fun _ x => x.tick }
    live := if s.blk.storm then s.live.addStorm else s.live
    mastA := s.mastA.latch
    mastB := s.mastB.latch }

/-- TICK (R13, R18, R27, R71, R139, R152). The expiries and polls that fall due are the commands that follow; a tick takes
those still left of the tick before first (log entry 3). -/
def execTick (s : State) : Result :=
  awake s
    (match s.blk.catchUp s.env with
     | none => .fault .cascadeBound
     | some b => .next (State.tick { s with blk := b }))

/-! ## The reset pin (R190) -/

/-- RESETN_ASSERTED (R190): the pulse counters are held cleared, and nothing else moves (log entry 23). -/
def execResetnAsserted (s : State) : Result :=
  .next
    { s with inReset := true, mastA := { s.mastA with pulses := 0 }, mastB := { s.mastB with pulses := 0 } }

/-- POWER_ON (R190): every block holds its power-on values. The queue of commands, the level of CONTEND and the model's
count of free values are no state of the part that RESETn writes (log entry 5). -/
def execPowerOn (s : State) : Result :=
  .next { State.reset with pending := s.pending, contend := s.contend, freeSeed := s.freeSeed }

end Sys2Proof.Machine
end

