-- ==== Sys2Proof/Machine/Transfers.lean ====
section
/-! DEFINITION. The transfer scheduler's commands (chapter 4): TRANSFER, READ_SHUTTLE, CLEAR_SHUTTLE, the step expiry and
the polls. -/

namespace Sys2Proof.Machine

open Sys2Proof

/-- TRANSFER (R66, R67): the map check of a row destination comes before the robot number. -/
def execTransfer (f : Frame) (robot : Byte) (dest : Dest) (s : State) : Result :=
  request (.transfer dest) f s fun t =>
    if destPresent t.env dest then
      onRobot robot t.refuse fun k =>
        match askTransfer t.env t.blk .fleet k dest with
        | .error c => t.refuse c
        | .ok (b, u, tag) => t.serve (b, [.offer u]) { code := .accepted, payload := [byteOf tag.val] }
    else t.refuse .badRow

/-- READ SHUTTLE taken from the plant port while the link is ENABLED clears the link-fault flag (R148). -/
def State.linkRead (s : State) (p : Port) : State :=
  if p = .plant ∧ s.blk.link.enabled = true then { s with blk := { s.blk with linkFaultItem := false } } else s

/-- READ_SHUTTLE (R80, R87, R148). -/
def execReadShuttle (f : Frame) (shuttle : Byte) (s : State) : Result :=
  request .readShuttle f s fun t =>
    match shuttleArg shuttle with
    | none => t.refuse .badValue
    | some u =>
      some (t.linkRead f.port,
        { code := .ok
          payload := shuttleBytes (t.blk.shuttle u) (t.blk.timeLeft t.env (.shuttleStep u)) (!t.blk.link.enabled)
            t.contend })

/-- CLEAR_SHUTTLE (R79, R86). -/
def execClearShuttle (f : Frame) (shuttle : Byte) (s : State) : Result :=
  request .clearShuttle f s fun t =>
    match shuttleArg shuttle with
    | none => t.refuse .badValue
    | some u =>
      if (t.blk.shuttle u).mode = .faulted then some ({ t with blk := t.blk.makeLocal u }, { code := .ok })
      else t.refuse .state

/-- SHUTTLE_STEP_EXPIRY (R76). -/
def execShuttleStepExpiry (u : ShuttleId) (s : State) : Result := s.expiry (.shuttleStep u) (shuttleStepExpired u)

/-- POLL_DUE (R71). -/
def execPollDue (u : ShuttleId) (s : State) : Result := awake s (.next { s with blk := s.blk.takePoll u })

end Sys2Proof.Machine
end

