-- ==== Sys2Proof/Machine/Dispatch.lean ====
section
/-! DEFINITION. The meaning of each command: one direct call per constructor. -/

namespace Sys2Proof.Machine

open Sys2Proof

def exec (i : Instr) (s : State) : Host.Outcome State Fault Refusal :=
  match i with
  | .fetch p clocked => Sys2Proof.Machine.execFetch p clocked s
  | .statusRead p bytes => Sys2Proof.Machine.execStatusRead p bytes s
  | .truncatedFrame p => Sys2Proof.Machine.execTruncatedFrame p s
  | .unknownRequest f kind => Sys2Proof.Machine.execUnknownRequest f kind s
  | .portReset p => Sys2Proof.Machine.execPortReset p s
  | .readRow f r => Sys2Proof.Machine.execReadRow f r s
  | .readRobot f robot => Sys2Proof.Machine.execReadRobot f robot s
  | .readShuttle f shuttle => Sys2Proof.Machine.execReadShuttle f shuttle s
  | .readWeather f => Sys2Proof.Machine.execReadWeather f s
  | .mapBay f bay entries => Sys2Proof.Machine.execMapBay f bay entries s
  | .setShuttle f shuttle first last => Sys2Proof.Machine.execSetShuttle f shuttle first last s
  | .configure f parameter value => Sys2Proof.Machine.execConfigure f parameter value s
  | .setTime f t => Sys2Proof.Machine.execSetTime f t s
  | .outputReport f pref t n pairs => Sys2Proof.Machine.execOutputReport f pref t n pairs s
  | .closePeriod f => Sys2Proof.Machine.execClosePeriod f s
  | .readPeriod f => Sys2Proof.Machine.execReadPeriod f s
  | .readLive f => Sys2Proof.Machine.execReadLive f s
  | .resetAccounts f => Sys2Proof.Machine.execResetAccounts f s
  | .calibrateRow f r kc => Sys2Proof.Machine.execCalibrateRow f r kc s
  | .lockRow f r => Sys2Proof.Machine.execLockRow f r s
  | .restoreRow f r => Sys2Proof.Machine.execRestoreRow f r s
  | .clearShuttle f shuttle => Sys2Proof.Machine.execClearShuttle f shuttle s
  | .linkResume f => Sys2Proof.Machine.execLinkResume f s
  | .fleetReset f => Sys2Proof.Machine.execFleetReset f s
  | .fetchAttention f start => Sys2Proof.Machine.execFetchAttention f start s
  | .holdConfirm f r => Sys2Proof.Machine.execHoldConfirm f r s
  | .stowDone f r => Sys2Proof.Machine.execStowDone f r s
  | .unstowDone f r => Sys2Proof.Machine.execUnstowDone f r s
  | .rowFault f r => Sys2Proof.Machine.execRowFault f r s
  | .rowReady f r => Sys2Proof.Machine.execRowReady f r s
  | .enroll f robot r => Sys2Proof.Machine.execEnroll f robot r s
  | .withdraw f robot => Sys2Proof.Machine.execWithdraw f robot s
  | .robotStatus f robot battery fault ack => Sys2Proof.Machine.execRobotStatus f robot battery fault ack s
  | .requestWork f robot => Sys2Proof.Machine.execRequestWork f robot s
  | .enterRow f robot r => Sys2Proof.Machine.execEnterRow f robot r s
  | .exitRow f robot => Sys2Proof.Machine.execExitRow f robot s
  | .cleanDone f robot => Sys2Proof.Machine.execCleanDone f robot s
  | .cleanAbort f robot => Sys2Proof.Machine.execCleanAbort f robot s
  | .braced f robot => Sys2Proof.Machine.execBraced f robot s
  | .unbraced f robot => Sys2Proof.Machine.execUnbraced f robot s
  | .transfer f robot dest => Sys2Proof.Machine.execTransfer f robot dest s
  | .fetchOrders f => Sys2Proof.Machine.execFetchOrders f s
  | .resetnAsserted => Sys2Proof.Machine.execResetnAsserted s
  | .powerOn => Sys2Proof.Machine.execPowerOn s
  | .tick => Sys2Proof.Machine.execTick s
  | .mastPulse m => Sys2Proof.Machine.execMastPulse m s
  | .contendAsserted => Sys2Proof.Machine.execContendAsserted s
  | .contendDeasserted => Sys2Proof.Machine.execContendDeasserted s
  | .holdConfirmExpiry k => Sys2Proof.Machine.execHoldConfirmExpiry k s
  | .holdLimitExpiry k => Sys2Proof.Machine.execHoldLimitExpiry k s
  | .shuttleStepExpiry u => Sys2Proof.Machine.execShuttleStepExpiry u s
  | .parkDeadlineExpiry => Sys2Proof.Machine.execParkDeadlineExpiry s
  | .calmHoldoffExpiry => Sys2Proof.Machine.execCalmHoldoffExpiry s
  | .pollDue u => Sys2Proof.Machine.execPollDue u s
  | .transactionStart => Sys2Proof.Machine.execTransactionStart s
  | .transactionCompletion data => Sys2Proof.Machine.execTransactionCompletion data s
  | .rowStep => Sys2Proof.Machine.execRowStep s
  | .mastStep => Sys2Proof.Machine.execMastStep s

end Sys2Proof.Machine
end

