-- ==== Sys2Proof/Safety.lean ====
section
/-! DEFINITION. The terms in which statements about the machine are made: what it is for a frame to be taken as a request,
what a taken request leaves beside its own effect, and the invariants of the records. -/

namespace Sys2Proof.Machine

open Sys2Proof

/-! ## Frames -/

/-- The frame is taken as a request and passes the port interface's own checks (R182, cases 5 and 6): RESETn is released, a
place of the reply queue is free, the length is at most 250, the request is permitted on the port, the map is loaded for a
row request, and a fixed payload length is the one of the catalogue. -/
abbrev Taken (q : Request) (f : Frame) (s : State) : Prop :=
  s.inReset = false ∧ 0 < s.freePlaces f.port ∧ f.len.toNat ≤ 250 ∧ q.on f.port = true
    ∧ (q.row = true → s.mapLoaded = true) ∧ q.len.getD f.len.toNat = f.len.toNat

/-- The port side of a taken request before its own effect: the status byte has been shifted out and the two frame bits are
clear (R180, R182). -/
def State.taken (s : State) (f : Frame) : State := (s.shiftStatus f.port).frameBits f.port false false

/-- The state after a taken request whose own effect is nothing: the reply `a` stands at the tail of the port's queue
(R182, R184). -/
def answered (q : Request) (f : Frame) (a : Answer) (s : State) : State := (s.taken f).reply f q.kind a

/-- The number that `count` bytes of a payload carry from an offset on, most significant byte first (R186). -/
def fieldAt (payload : List Byte) (offset count : Nat) : Nat :=
  ((payload.drop offset).take count).foldl (fun n x => 256 * n + x.toNat) 0

/-- One byte of a payload. -/
def byteAt (payload : List Byte) (offset : Nat) : Byte := payload.getD offset 0

/-- The value of a one-byte field that may be none (R186). -/
def orNone {n : Nat} : Option (Fin n) → Nat
  | some x => x.val
  | none => 255

/-- The request and the header of a command that is a request frame of the catalogue. -/
def requestFrame : Instr → Option (Request × Frame)
  | .readRow f _ => some (.readRow, f)
  | .readRobot f _ => some (.readRobot, f)
  | .readShuttle f _ => some (.readShuttle, f)
  | .readWeather f => some (.readWeather, f)
  | .mapBay f _ _ => some (.mapBay, f)
  | .setShuttle f _ _ _ => some (.setShuttle, f)
  | .configure f _ _ => some (.configure, f)
  | .setTime f _ => some (.setTime, f)
  | .outputReport f _ _ _ _ => some (.outputReport, f)
  | .closePeriod f => some (.closePeriod, f)
  | .readPeriod f => some (.readPeriod, f)
  | .readLive f => some (.readLive, f)
  | .resetAccounts f => some (.resetAccounts, f)
  | .calibrateRow f _ _ => some (.calibrateRow, f)
  | .lockRow f _ => some (.lockRow, f)
  | .restoreRow f _ => some (.restoreRow, f)
  | .clearShuttle f _ => some (.clearShuttle, f)
  | .linkResume f => some (.linkResume, f)
  | .fleetReset f => some (.fleetReset, f)
  | .fetchAttention f _ => some (.fetchAttention, f)
  | .holdConfirm f _ => some (.holdConfirm, f)
  | .stowDone f _ => some (.stowDone, f)
  | .unstowDone f _ => some (.unstowDone, f)
  | .rowFault f _ => some (.rowFault, f)
  | .rowReady f _ => some (.rowReady, f)
  | .enroll f _ _ => some (.enroll, f)
  | .withdraw f _ => some (.withdraw, f)
  | .robotStatus f _ _ _ _ => some (.robotStatus, f)
  | .requestWork f _ => some (.requestWork, f)
  | .enterRow f _ _ => some (.enterRow, f)
  | .exitRow f _ => some (.exitRow, f)
  | .cleanDone f _ => some (.cleanDone, f)
  | .cleanAbort f _ => some (.cleanAbort, f)
  | .braced f _ => some (.braced, f)
  | .unbraced f _ => some (.unbraced, f)
  | .transfer f _ dest => some (.transfer dest, f)
  | .fetchOrders f => some (.fetchOrders, f)
  | .fetch _ _ | .statusRead _ _ | .truncatedFrame _ | .unknownRequest _ _ | .portReset _ | .resetnAsserted | .powerOn
  | .tick | .mastPulse _ | .contendAsserted | .contendDeasserted | .holdConfirmExpiry _ | .holdLimitExpiry _
  | .shuttleStepExpiry _ | .parkDeadlineExpiry | .calmHoldoffExpiry | .pollDue _ | .transactionStart
  | .transactionCompletion _ | .rowStep | .mastStep => none

/-! ## The codes of R187, by the order in which the rules list the values -/

def RobotMode.code : RobotMode → Nat
  | .absent => 0 | .idle => 1 | .waitHold => 2 | .onRow => 3 | .waitTransfer => 4 | .carried => 5 | .braced => 6
  | .faulted => 7

/-- The two bytes of a location; 255 where the second has no meaning. -/
def Location.code : Location → Nat × Nat
  | .nowhere => (0, 255) | .rowEnd r => (1, r.val) | .onRow r => (2, r.val) | .carried s => (3, s.val) | .unknown => (4, 255)

def Order.code : Order → Nat × Nat
  | .none => (0, 255) | .go r => (1, r.val) | .exit => (2, 255) | .brace => (3, 255) | .unbrace => (4, 255)
  | .attend => (5, 255)

def FailReason.code : FailReason → Nat
  | .shuttleTimeout => 0 | .shuttleFault => 1 | .destLocked => 2 | .lost => 3 | .link => 4 | .storm => 5

def RobotOutcome.code : RobotOutcome → Nat × Nat
  | .none => (0, 255) | .entryFailed => (1, 255) | .transferFailed why => (2, why.code) | .roundDone => (3, 255)
  | .roundDiscarded => (4, 255) | .parked => (5, 255) | .noPark => (6, 255)

def Standing.code : Standing → Nat
  | .none => 0 | .safe => 1 | .unparked => 2

def EntryState.code : EntryState → Nat
  | .pending => 0 | .active => 1 | .done => 2 | .skipped => 3

/-- The skip reason of an entry, 0 for none. -/
def Entry.reasonCode (x : Entry) : Nat :=
  match x.reason with
  | none => 0
  | some .holdTimeout => 1 | some .endBusy => 2 | some .queueFull => 3 | some .aborted => 4 | some .fault => 5
  | some .discarded => 6 | some .ineligible => 7

def ShuttleMode.code : ShuttleMode → Nat
  | .offline => 0 | .localUnknown => 1 | .idle => 2 | .moving => 3 | .docking => 4 | .faulted => 5

/-- The fault cause of a shuttle, none after the last of R64 (log entry 11). -/
def Shuttle.causeCode (x : Shuttle) : Nat :=
  match x.cause with
  | some .timeout => 0 | some .reported => 1 | some .loadUnknown => 2 | none => 3

def Origin.code : Origin → Nat
  | .fleet => 0 | .round => 1 | .charge => 2 | .park => 3 | .recovery => 4

def RunStep.code : RunStep → Nat
  | .moveToSource => 1 | .loading => 2 | .moveToDest => 3 | .unloading => 4

def Weather.code : Weather → Nat
  | .start => 0 | .calm => 1 | .watch => 2 | .park => 3 | .stow => 4 | .recover => 5

def Level.code : Level → Nat
  | .none => 0 | .watch => 1 | .park => 2 | .stow => 3

/-! ## What rules ask of the block -/

/-- A robot that comes to rest is given nothing (R44, R59): no charge is deferred, and it holds no task, or no round and a PARK
task on top outside a storm. -/
abbrev Block.RestsIdle (b : Block) (k : RobotId) : Prop :=
  (b.robot k).chargeDeferred = false
    ∧ ((b.robot k).stack = []
      ∨ ((b.robot k).stack.head? = some .park ∧ (b.robot k).round = none ∧ b.storm = false))

/-- The test of R177 passes over the block: RECOVER is left for CALM. -/
abbrev Block.LeavesRecover (e : Env) (b : Block) : Prop :=
  b.weather = .recover ∧ b.level = .none
    ∧ (∀ r, (e.row r).present = true → (b.row r).tracker ≠ .stowed ∧ (b.row r).tracker ≠ .unstowWanted)
    ∧ ∀ k, (b.robot k).mode ≠ .braced

/-- From `b` to `c`, shuttle `u` is made LOCAL and nothing else changes (R64, R70, R84, R86). -/
abbrev MadeLocal (u : ShuttleId) (b c : Block) : Prop :=
  c = { b with shuttles := c.shuttles, link := c.link }
    ∧ c.shuttle u = { b.shuttle u with
        mode := .localUnknown, cause := none, position := none, pollDue := none, commandSent := false }
    ∧ (∀ v, v ≠ u → c.shuttle v = b.shuttle v)
    ∧ c.link = { b.link with
        queue := if b.link.enabled then b.link.queue.set u (some { op := .status, counts := false }) else b.link.queue
        inFlight := b.link.inFlight.map fun x => if x.shuttle = u then { x with discard := true } else x }

/-- From `b` to `c` the contention fault is latched, with the last-served pointer at `last`, and nothing else changes (R88 to
R90, R148). -/
abbrev Latched (last : ShuttleId) (b c : Block) : Prop :=
  c = { b with
      link := c.link, shuttles := c.shuttles, linkFaultItem := true
      deadlines := b.deadlines.filter fun d => ∀ u, d.kind ≠ .shuttleStep u }
    ∧ (c.link.enabled = false ∧ (∀ u : ShuttleId, c.link.queue[u] = none) ∧ c.link.inFlight = none
        ∧ c.link.lastServed = last)
    ∧ ∀ u,
        let x := b.shuttle u
        let off := x.mode = .offline
        c.shuttle u = { x with
          mode := if off then x.mode else .localUnknown
          position := if off then x.position else none
          pollDue := if off then x.pollDue else none
          cause := if off then x.cause else none
          commandSent := if off then x.commandSent else false
          queue := x.queue.map fun t =>
            { t with step := match t.step with | .running y => .inDoubt y | other => other } }

/-! ## Transfers -/

/-- The lowest tag that no record bears (R62). -/
abbrev Block.LowestFree (b : Block) (tag : Tag) : Prop :=
  (∀ v, tag ∉ (b.shuttle v).queue.map Transfer.tag)
    ∧ ∀ t, t < tag → ∃ v, t ∈ (b.shuttle v).queue.map Transfer.tag

/-- The shuttle takes no work now: it is not IDLE, or it has a current transfer (R69). -/
abbrev Block.Occupied (b : Block) (u : ShuttleId) : Prop :=
  ¬ ((b.shuttle u).mode = .idle ∧ (b.shuttle u).current = none)

/-- The row end is free and its row unreserved and unlocked (R5). -/
abbrev RowState.Open (x : RowState) : Prop :=
  x.occupant = none ∧ x.reservation = none ∧ x.holder = none ∧ x.reservedBy = none ∧ x.locked = none

/-- A cradle of the shuttle's range whose end is free, unreserved and unlocked (R57, R93, R170). -/
abbrev Block.CradleFor (e : Env) (u : ShuttleId) (b : Block) (c : RowId) : Prop :=
  (e.row c).present = true ∧ (e.row c).cradle = true ∧ (e.row c).shuttle = some u ∧ (b.row c).Open

/-- The cradle nearest row `p`, the lower of two at equal difference (R57, R93, R170). -/
abbrev Block.NearestCradle (e : Env) (u : ShuttleId) (b : Block) (p c : RowId) : Prop :=
  let gap := fun d : RowId => (p.val - d.val) + (d.val - p.val)
  b.CradleFor e u c ∧ ∀ d, b.CradleFor e u d → gap c < gap d ∨ (gap c = gap d ∧ c ≤ d)

/-- The end reservation of a record's destination is released (R75, part 2). -/
def Block.destReleased (t : Transfer) (b : Block) : Block :=
  match t.dest with
  | .rowEnd d => b.modRow d fun y => { y with reservation := if y.reservation = some t.tag then none else y.reservation }
  | .garage => b

/-- Parts 1 to 4 of R75 for the current, running transfer `t` of shuttle `u`, whose queue is left `rest`. -/
def Block.stepFailed (u : ShuttleId) (t : Transfer) (x : RunStep) (why : FailReason) (rest : List Transfer) (b : Block) :
    Block :=
  let lost := x = .moveToDest ∨ x = .unloading
  (((b.cancel (.shuttleStep u)).modShuttle u fun y => { y with current := none, queue := rest }).destReleased t).modRobot
    t.robot fun z =>
      { z with
        transfer := none, outcome := .transferFailed why
        mode := if ¬ lost ∧ z.mode = .waitTransfer then .idle else z.mode
        location := if lost then .carried u else z.location
        inGarage := if lost then false else z.inGarage
        order := if lost then .attend else z.order }

/-- Parts 1 to 4 of R75 for a QUEUED transfer `t` of shuttle `u`, whose queue is left `rest`. -/
def Block.queuedFailed (u : ShuttleId) (t : Transfer) (why : FailReason) (rest : List Transfer) (b : Block) : Block :=
  ((b.modShuttle u fun y => { y with queue := rest }).destReleased t).modRobot t.robot fun z =>
    { z with
      transfer := none, outcome := .transferFailed why
      mode := match t.source with
        | .rowEnd _ => if z.mode = .waitTransfer then .idle else z.mode
        | .carried _ => z.mode }

/-- The first step of record `t` on a shuttle at `position`, and its command (R69, R70, R82). -/
abbrev FirstStep (position : Option Dest) (t : Transfer) (x : RunStep) (op : LinkOp) : Prop :=
  match t.source, t.dest with
  | .rowEnd r, _ =>
    if position = some (.rowEnd r) then x = .loading ∧ op = .load t.robot r else x = .moveToSource ∧ op = .move r none
  | .carried _, .rowEnd d =>
    if position = some (.rowEnd d) then x = .unloading ∧ op = .unload t.robot d
    else x = .moveToDest ∧ op = .move d (some t.robot)
  | .carried _, .garage => x = .moveToDest ∧ op = .garage (some t.robot)

/-- Shuttle `u` of `b`, IDLE with no current transfer, is offered work, and the block becomes `c` (R65, R69, R70): no record is
QUEUED that it may take, or the first of them in queue order moves to the head and its first step starts. -/
abbrev Block.Offered (e : Env) (u : ShuttleId) (b c : Block) : Prop :=
  let z := b.shuttle u
  let may := fun t : Transfer => t.step = .queued ∧ (z.load = none ∨ z.load = some t.robot)
  ((∀ t ∈ z.queue, ¬ may t) ∧ c = b)
    ∨ ∃ before t after x op, z.queue = before ++ t :: after ∧ may t ∧ (∀ y ∈ before, ¬ may y)
        ∧ (∀ y ∈ before ++ after, y.tag ≠ t.tag) ∧ (∀ d, t.dest = .rowEnd d → (b.row d).locked = none)
        ∧ FirstStep z.position t x op
        ∧ c = (((b.modShuttle u fun w =>
              { w with
                mode := if x = .moveToSource ∨ x = .moveToDest then .moving else .docking
                current := some t.tag, pollDue := none, commandSent := false
                queue := { t with step := .running x } :: (before ++ after) }).modRobot t.robot fun w =>
              { w with inGarage := if x = .moveToDest ∨ x = .unloading then false else w.inGarage }).placeLink u op
            false).arm e (.shuttleStep u) e.params.stepTimeout

/-- Shuttle `u` of `b` is offered work, and the block becomes `c` (R69). The shuttle takes none: it is not IDLE, it has a current
transfer, or offers to it wait (`hold`; R67). Or it takes a record. Or the record it takes has a destination that has become
LOCKED, fails DEST_LOCKED (R75; said for origin FLEET), and the shuttle is offered work again. -/
inductive Offers (e : Env) (hold : Option ShuttleId) (u : ShuttleId) : Block → Block → Prop
  | none (b : Block) : hold = some u ∨ b.Occupied u → Offers e hold u b b
  | taken (b c : Block) : hold ≠ some u → ¬ b.Occupied u → b.Offered e u c → Offers e hold u b c
  | locked (b c : Block) (before : List Transfer) (t : Transfer) (after : List Transfer) (d : RowId) :
      hold ≠ some u → ¬ b.Occupied u → (b.shuttle u).queue = before ++ t :: after → (before ++ after).length < 8 →
      (∀ y ∈ before ++ after, y.tag ≠ t.tag) →
      (t.step = .queued ∧ ((b.shuttle u).load = none ∨ (b.shuttle u).load = some t.robot)) →
      (∀ y ∈ before, ¬ (y.step = .queued ∧ ((b.shuttle u).load = none ∨ (b.shuttle u).load = some y.robot))) →
      t.dest = .rowEnd d → (b.row d).locked ≠ none → t.origin = .fleet →
      Offers e hold u (b.queuedFailed u t .destLocked (before ++ after)) c → Offers e hold u b c

/-! ## Coming to rest -/

/-- The robot stands IDLE at the end of row `p` (R44). -/
abbrev Robot.IdleAt (x : Robot) (p : RowId) : Prop := x.mode = .idle ∧ x.location = .rowEnd p

/-- The charge plan of robot `k`, IDLE at the end of row `p` (R57): it charges at a cradle; or waits, with no cradle open in its
shuttle's range; or asks for the nearest one, and waits when it is refused. -/
abbrev ChargePlanned (e : Env) (hold : Option ShuttleId) (k : RobotId) (p : RowId) (b c : Block) : Prop :=
  let wait := fun (w : Bool) (d : Block) => d.modRobot k fun z => { z with chargeWait := w }
  let cradle := (e.row p).cradle = true
  (cradle ∧ c = wait false b)
    ∨ (¬ cradle ∧ (∀ u d, (e.row p).shuttle = some u → ¬ b.CradleFor e u d) ∧ c = wait true b)
    ∨ ∃ u d, ¬ cradle ∧ (e.row p).shuttle = some u ∧ b.NearestCradle e u p d
        ∧ match askTransfer e b .charge k (.rowEnd d) with
          | .ok (f, v, _) => Offers e hold v (wait false f) c
          | .error _ => c = wait true b

/-- The task on top of robot `k`'s stack is given it, and the block becomes `c` (R44, step 2; R59). Nothing is given to a robot
that is not IDLE at a row end or has no task; a PARK task on top is left to the park plan. A ROUND task hands the robot to
its round (R104), and a round that completes gives it to the task below. A CHARGE task is popped by the test of R58, or
the charge plan is made (R57). -/
inductive GivesTop (e : Env) (hold : Option ShuttleId) (k : RobotId) : Block → Block → Prop
  | nothing (b : Block) :
      (∀ p, ¬ (b.robot k).IdleAt p) ∨ (b.robot k).stack = [] ∨ (b.robot k).stack.head? = some .park →
      GivesTop e hold k b b
  | round (b c : Block) (p : RowId) (rd rd' : Round) (below : List RobotTask) :
      (b.robot k).IdleAt p → (b.robot k).stack = .round rd :: below → handToRound e k b = (some rd', c, []) →
      GivesTop e hold k b c
  | roundAsks (b c d : Block) (p : RowId) (rd rd' : Round) (below : List RobotTask) (u : ShuttleId) :
      (b.robot k).IdleAt p → (b.robot k).stack = .round rd :: below →
      handToRound e k b = (some rd', c, [.offer u]) → Offers e hold u c d → GivesTop e hold k b d
  | roundDone (b c d : Block) (p : RowId) (rd rd' : Round) (below : List RobotTask) :
      (b.robot k).IdleAt p → (b.robot k).stack = .round rd :: below →
      handToRound e k b = (some rd', c, [.giveTop k]) → GivesTop e hold k c d → GivesTop e hold k b d
  | chargeDone (b c : Block) (p : RowId) (below : List RobotTask) :
      (b.robot k).IdleAt p → (b.robot k).stack = .charge :: below → RobotTask.charge ∉ below →
      (e.row p).cradle = true → e.params.resumeLevel ≤ (b.robot k).battery →
      GivesTop e hold k (b.modRobot k fun z => { z with stack := below }) c → GivesTop e hold k b c
  | charges (b c : Block) (p : RowId) (below : List RobotTask) :
      (b.robot k).IdleAt p → (b.robot k).stack = .charge :: below →
      ¬ ((e.row p).cradle = true ∧ e.params.resumeLevel ≤ (b.robot k).battery) →
      ChargePlanned e hold k p b c → GivesTop e hold k b c

/-- Robot `k` comes to rest, and the block becomes `c` (R44): a deferred charge push is tested (R56), and the top task is given
the robot. -/
abbrev ComesToRest (e : Env) (hold : Option ShuttleId) (k : RobotId) (b c : Block) : Prop :=
  let z := b.robot k
  let pushed := z.battery < e.params.chargeFloor ∧ (b.weather = .calm ∨ b.weather = .watch)
    ∧ RobotTask.charge ∉ z.stack
  GivesTop e hold k
    (if z.chargeDeferred = true ∧ ∃ p, z.IdleAt p then
      b.modRobot k fun w =>
        { w with chargeDeferred := false, stack := if pushed then .charge :: w.stack else w.stack }
    else b) c

/-- `rule` takes the robots of a list in turn, and the block becomes `c`. -/
def InTurn (rule : RobotId → Block → Block → Prop) : List RobotId → Block → Block → Prop
  | [], b, c => c = b
  | k :: ks, b, c => ∃ d, rule k b d ∧ InTurn rule ks d c

/-- The park plan of robot `k` is made (R169), with the offer of work that an accepted transfer brings (R67). -/
abbrev Planned (e : Env) (hold : Option ShuttleId) (k : RobotId) (b c : Block) : Prop :=
  ((planRobot e k b).2 = [] ∧ c = (planRobot e k b).1)
    ∨ ∃ u, (planRobot e k b).2 = [.offer u] ∧ Offers e hold u (planRobot e k b).1 c

/-- A pass of the park plan in PARK or STOW: every enrolled robot that holds a PARK task is planned, in ascending order; in any
other weather no pass (R168). -/
abbrev PassMade (e : Env) (hold : Option ShuttleId) (b c : Block) : Prop :=
  (b.storm = false → c = b)
    ∧ (b.storm = true →
        InTurn (Planned e hold)
          ((List.finRange 24).filter fun k => (b.robot k).mode ≠ .absent ∧ RobotTask.park ∈ (b.robot k).stack) b c)

/-- Robot `k` comes to rest in an event that makes no pass: a PARK task that is then on top plans the robot alone (R168). -/
abbrev RestsAlone (e : Env) (k : RobotId) (b d : Block) : Prop :=
  ∃ c, ComesToRest e none k b c
    ∧ if (c.robot k).stack.head? = some .park ∧ ∃ p, (c.robot k).IdleAt p then Planned e none k c d else d = c

/-- The retry of the charge plan for one robot at a DONE (R57). -/
abbrev ChargeRetried (e : Env) (hold : Option ShuttleId) (k : RobotId) (b c : Block) : Prop :=
  let z := b.robot k
  let top := z.stack.head? = some .charge
  (z.chargeWait = true ∧ top → ∀ p, z.IdleAt p → ChargePlanned e hold k p b c)
    ∧ (¬ (z.chargeWait = true ∧ top ∧ ∃ p, z.IdleAt p) →
        c = b.modRobot k fun w => { w with chargeWait := w.chargeWait && decide top })

/-- The entry of robot `k`'s round for row `r` that `which` picks becomes SKIPPED for a reason, and the row's reservation is
released; a round with no open entry left is popped with ROUND_DONE, and where it was on top the task below is given the
robot (R59, R99, R108, R109, R114). With no such entry nothing changes. -/
abbrev Skips (e : Env) (k : RobotId) (r : RowId) (which : Entry → Prop) [DecidablePred which] (why : SkipReason)
    (b c : Block) : Prop :=
  let at' := fun x : Entry => x.row = r ∧ which x
  let stack := (b.robot k).stack
  ((∀ rd, (b.robot k).round = some rd → ∀ x ∈ rd.entries, ¬ at' x) → c = b)
    ∧ ∀ rd, (b.robot k).round = some rd → (∃ x ∈ rd.entries, at' x) →
        let rd' : Round :=
          { rd with
            entries := rd.entries.map fun x =>
              if at' x then { x with state := .skipped, entered := false, reason := some why } else x }
        let d := b.modRow r fun y => { y with reservedBy := none }
        let popped := d.modRobot k fun z => { z with stack := stack.filter (fun t => !t.isRound), outcome := .roundDone }
        ((∃ x ∈ rd'.entries, x.state = .pending ∨ x.state = .active) →
            c = d.modRobot k fun z => { z with stack := setRound rd' stack })
          ∧ ((∀ x ∈ rd'.entries, x.state ≠ .pending ∧ x.state ≠ .active) →
              if stack.head?.any RobotTask.isRound then
                (b.storm = false ∨ RobotTask.park ∉ stack) ∧ GivesTop e none k popped c
              else c = popped)

/-- A robot after CALM entry, beside a task it is given (R178, part 2; R59). -/
def Robot.calmed (x : Robot) : Robot :=
  if x.mode = .absent then x
  else
    { x with
      standing := .none, parkWait := false, stack := x.stack.filter fun t => t ≠ .park
      order := if x.inGarage = true ∧ x.transfer = none ∧ ∃ u, x.location = .carried u then .attend else x.order }

/-- CALM entry takes one robot (R178, part 2): the task below its PARK task, or its paused round, is given it. -/
abbrev Calms (e : Env) (k : RobotId) (b c : Block) : Prop :=
  let z := b.robot k
  let given := z.mode ≠ .absent
    ∧ (z.stack.head? = some .park ∨ (RobotTask.park ∉ z.stack ∧ ∃ rd below, z.stack = .round rd :: below ∧ rd.paused = true))
  (given → GivesTop e none k (b.modRobot k Robot.calmed) c) ∧ (¬ given → c = b.modRobot k Robot.calmed)

/-- CALM is entered, and the block becomes `c`: every robot is taken, in ascending order (R178). -/
abbrev CalmEntered (e : Env) (b c : Block) : Prop :=
  InTurn (Calms e) (List.finRange 24) { b with weather := .calm, weatherChanged := true } c

/-- The block after a CALM entry that gives no robot a task (R178). -/
def Block.calmed (b : Block) : Block :=
  { b with weather := .calm, weatherChanged := true, robots := mapAll b.robots fun _ x => x.calmed }

/-- CALM entry gives the robot no task (R178, R59): IDLE at a row end it has no task under its PARK task, and no paused round. -/
abbrev Robot.CalmsAlone (x : Robot) : Prop :=
  x.mode = .idle → (∃ p, x.location = .rowEnd p) → x.stack = [] ∨ x.stack = [.park] ∨ x.stack.head? = some .charge

/-- An event whose own changes end at `b` makes the test of R177: it ends at `b` where the test does not pass, and with CALM
entry where it passes. -/
abbrev Block.ThenTested (e : Env) (b : Block) (ends : Block → Prop) : Prop :=
  (¬ b.LeavesRecover e → ends b) ∧ (b.LeavesRecover e → ∀ c, CalmEntered e b c → ends c)

/-! ## Statuses -/

/-- The STATUS in flight comes back from shuttle `u` with the bytes `data`, and is valid as `st` (R83, R86). -/
abbrev State.Shows (s : State) (data : StatusBytes) (u : ShuttleId) (st : Status) : Prop :=
  s.inReset = false ∧ readStatus (s.blk.shuttle u) data = some st
    ∧ ∃ x, s.blk.link.inFlight = some x ∧ x.shuttle = u ∧ x.discard = false ∧ x.txn.op = .status

/-- What a valid status of shuttle `u` leaves before the rule of the shuttle's state takes it: nothing in flight, the poll due
set, the position and the last fault code taken (R71, R83). -/
def State.shown (s : State) (u : ShuttleId) (st : Status) : Block :=
  { s.blk with link := { s.blk.link with inFlight := none } }.modShuttle u fun y =>
    { y with
      lastFault := st.fault, pollDue := some s.env.params.pollInterval
      position := some (if st.garage then .garage else .rowEnd st.row) }

/-- The shuttle becomes FAULTED (R74, R75, R76, R78), with no poll due and nothing pending for it (R64; log entry 14). -/
def Block.shuttleFaulted (u : ShuttleId) (why : ShuttleCause) (b : Block) : Block :=
  { b with link := { b.link with queue := b.link.queue.set u none } }.modShuttle u fun y =>
    { y with mode := .faulted, cause := some why, pollDue := none }

/-- The shuttle becomes IDLE with a load (R78). -/
def Block.shuttleSettled (u : ShuttleId) (load : Option RobotId) (b : Block) : Block :=
  b.modShuttle u fun y => { y with mode := .idle, load := load }

/-- A robot found aboard takes the garage of shuttle `u` (R78, check 3; R93): a QUEUED record of another robot bound there fails.
Said for one of origin FLEET. -/
abbrev Block.GarageTaken (u : ShuttleId) (k : RobotId) (why : FailReason) (b c : Block) : Prop :=
  let other := fun t : Transfer => t.step = .queued ∧ t.dest = .garage ∧ t.robot ≠ k
  ((∀ t ∈ (b.shuttle u).queue, ¬ other t) ∧ c = b)
    ∨ ∃ before t after, (b.shuttle u).queue = before ++ t :: after ∧ other t ∧ t.origin = .fleet
        ∧ (∀ y ∈ before, ¬ other y) ∧ (∀ y ∈ before ++ after, y.tag ≠ t.tag)
        ∧ c = b.queuedFailed u t why (before ++ after)

/-- Parts 1 to 4 of R75 for the IN_DOUBT transfer `t` of shuttle `u`, whose queue is left `rest` (R93). -/
def Block.doubtFailed (u : ShuttleId) (t : Transfer) (rest : List Transfer) (b : Block) : Block :=
  (((b.cancel (.shuttleStep u)).modShuttle u fun y => { y with current := none, queue := rest }).destReleased t).modRobot
    t.robot fun z => { z with transfer := none, outcome := .transferFailed .link }

/-- The robot found aboard by a reconciliation (R93, loaded case). -/
def Block.foundAboard (u : ShuttleId) (t : Transfer) (garage : Bool) (b : Block) : Block :=
  let c : Block := match t.source with
    | .rowEnd r => b.modRow r fun y => { y with occupant := if y.occupant = some t.robot then none else y.occupant }
    | .carried _ => b
  c.modRobot t.robot fun z =>
    { z with mode := if z.mode = .faulted then .faulted else .carried, location := .carried u, inGarage := garage }

/-- The row end that a RECOVERY record returns its robot to: the former source where it may be used again, and otherwise the
nearest cradle (R93). -/
abbrev Block.RecoverTo (e : Env) (u : ShuttleId) (t : Transfer) (p : RowId) (b : Block) (d : RowId) : Prop :=
  let former := fun r : RowId => t.source = .rowEnd r
    ∧ (b.row r).occupant = none ∧ (b.row r).reservation = none ∧ (b.row r).holder = none ∧ (b.row r).locked = none
    ∧ ((b.row r).reservedBy = none ∨ (b.row r).reservedBy = some t.robot)
  former d ∨ ((∀ r, ¬ former r) ∧ b.NearestCradle e u p d)

/-- The RECOVERY record of robot `k` is made and placed before every QUEUED record, no dispatched one standing (R68, R93). -/
def Block.recoveryMade (u : ShuttleId) (k : RobotId) (tag : Tag) (d : RowId) (b : Block) : Block :=
  ((b.modRow d fun y => { y with reservation := some tag }).modRobot k fun z => { z with transfer := some tag }).modShuttle u
    fun y =>
      { y with
        queue := { tag := tag, robot := k, source := .carried u, dest := .rowEnd d, origin := .recovery, step := .queued }
          :: y.queue }

/-- A shuttle's queue holds at most 8 records, and no tag is used twice (R62). -/
abbrev Block.TransfersInRange (b : Block) : Prop :=
  (∀ s, (b.shuttle s).queue.length ≤ 8) ∧ b.usedTags.Nodup

/-! ## Storms -/

/-- Part 2 of R167 for one QUEUED record of priority NORMAL: the failure of R75 with reason STORM, and what its owner does (R57,
R107). -/
def Block.stormFailed (b : Block) (x : ShuttleId × Transfer) : Block :=
  let t := x.2
  let returned := fun y : Entry =>
    if t.dest = .rowEnd y.row ∧ y.state = .active then { y with state := .pending, entered := false, reason := none } else y
  (b.queuedFailed x.1 t .storm ((b.shuttle x.1).queue.filter fun y => y.tag ≠ t.tag)).modRobot t.robot fun z =>
    { z with
      chargeWait := if t.origin = .charge then true else z.chargeWait
      stack :=
        if t.origin = .round then
          z.stack.map fun y => match y with
            | .round rd => .round { rd with entries := rd.entries.map returned }
            | other => other
        else z.stack }

/-- The QUEUED records of priority NORMAL, shuttles ascending and records in queue order (R167, part 2). -/
def Block.normalsQueued (b : Block) : List (ShuttleId × Transfer) :=
  (List.finRange 4).flatMap fun u =>
    ((b.shuttle u).queue.filter fun t => t.step = .queued ∧ t.origin ≠ .park ∧ t.origin ≠ .recovery).map fun t => (u, t)

/-- A PARK task is pushed for every enrolled robot that holds none (R167, part 3). -/
def Block.parksPushed (b : Block) : Block :=
  { b with
    robots := mapAll b.robots fun _ z =>
      if z.mode ≠ .absent ∧ RobotTask.park ∉ z.stack then { z with stack := .park :: z.stack } else z }

/-- The stow release of every present row (R32; R167, part 4; R175, part 3). -/
def Block.stowReleased (e : Env) (b : Block) : Block :=
  { b with
    rows := mapAll b.rows fun r x =>
      let braced := ∃ k, x.holder = some k ∧ (b.robot k).mode = .braced
      if (e.row r).present = false then x
      else if x.tracker = .tracking ∧ x.holder = none then { x with tracker := .stowReleased, resumeWanted := false }
      else if x.tracker = .held ∧ braced then { x with tracker := .stowReleased }
      else if x.tracker = .unstowWanted ∧ (x.holder = none ∨ braced) then { x with tracker := .stowed }
      else x }

/-- Every HELD row whose holder rides it unbraced is STRANDED (R175, part 4). -/
def Block.ridersStranded (b : Block) : Block :=
  { b with
    rows := mapAll b.rows fun r x =>
      if x.tracker = .held ∧ ∃ k, x.holder = some k ∧ (b.robot k).location = .onRow r ∧ (b.robot k).mode ≠ .braced then
        { x with stranded := true, cls := 0 }
      else x }

/-- The hand of a level PARK or STOW that is a rise (R163, R165, R167, R175), before the pass of the park plan, over shuttles that
take no work now. -/
def Block.stormEntered (e : Env) (l : Level) (b : Block) : Block :=
  let b1 : Block := { b.cancel .calmHoldoff with
    level := l, weather := if l = .stow then .stow else .park, weatherChanged := true }
  let b2 : Block :=
    if b.weather = .park then b1
    else
      ((b1.normalsQueued.foldl Block.stormFailed
          { b1.arm e .parkDeadline e.params.parkDeadline with deadlinePassed := false }).parksPushed).stowReleased e
  if l = .stow then ({ b2 with stowd := true }.stowReleased e).ridersStranded else b2

/-- `stormEntered` says what a hand does: no shuttle takes work now, no QUEUED record is a current transfer, tags are unique, and
the robot of a QUEUED ROUND record holds one round. -/
abbrev Block.EntersPlainly (b : Block) : Prop :=
  (∀ u, b.Occupied u) ∧ b.TransfersInRange
    ∧ ∀ u, ∀ t ∈ (b.shuttle u).queue, t.step = .queued →
        (b.shuttle u).current ≠ some t.tag
          ∧ (t.origin = .round → (b.robot t.robot).stack.countP RobotTask.isRound = 1)

/-- No place is found for the robot (R170, step 5), and its standing becomes UNPARKED (R171). -/
def Block.unplaced (k : RobotId) (b : Block) : Block :=
  b.modRobot k fun z =>
    { z with
      order := match z.location with | .carried _ => .attend | _ => .brace
      standing := .unparked, outcome := if z.standing = .unparked then z.outcome else .noPark }

/-- The place that R170 takes on shuttle `u` from reference row `p`, in its steps 2 and 3. -/
abbrev Block.ParkPlace (e : Env) (u : ShuttleId) (p : Option RowId) (b : Block) : Dest → Prop
  | .rowEnd c =>
    match p with
    | some r => b.NearestCradle e u r c
    | none => b.CradleFor e u c ∧ ∀ d, b.CradleFor e u d → c ≤ d
  | .garage =>
    (∀ c, ¬ b.CradleFor e u c) ∧ (∀ k, (b.robot k).location = .carried u → (b.robot k).inGarage = false)
      ∧ ∀ t ∈ (b.shuttle u).queue, t.dest ≠ .garage

/-- The PARK transfer of robot `k` is accepted, its record placed between `before` and `after` (R67, R170, step 4). -/
def Block.parkAsked (u : ShuttleId) (k : RobotId) (tag : Tag) (source : Source) (dest : Dest)
    (before after : List Transfer) (b : Block) : Block :=
  let c : Block := match dest with
    | .rowEnd d => b.modRow d fun y => { y with reservation := some tag }
    | .garage => b
  (c.modRobot k fun z =>
    { z with
      transfer := some tag, parkWait := false, order := if z.order = .attend then .none else z.order
      mode := match source with | .rowEnd _ => .waitTransfer | .carried _ => z.mode }).modShuttle u fun y =>
    { y with
      queue := before ++ { tag := tag, robot := k, source := source, dest := dest, origin := .park, step := .queued } :: after }

/-- The block after RECOVER entry, before the test of R177 (R176). -/
def Block.recoverEntered (e : Env) (b : Block) : Block :=
  { b.cancel .parkDeadline with
    weather := .recover, weatherChanged := true, stowd := false, deadlinePassed := false
    rows := mapAll b.rows fun r x =>
      let resumed := x.tracker = .stowReleased ∧ x.holder = none
      { x with
        tracker := if x.tracker = .stowed then .unstowWanted else if resumed then .tracking else x.tracker
        resumeWanted := if resumed then true else x.resumeWanted
        restart := if (e.row r).present then true else x.restart }
    robots := mapAll b.robots fun _ z =>
      { z with
        parkWait := false
        order := if z.mode = .braced then .unbrace else if z.order = .brace then .none else z.order } }

/-! ## Rounds -/

/-- The entry is PENDING or ACTIVE. -/
abbrev Entry.Open (x : Entry) : Prop := x.state = .pending ∨ x.state = .active

/-- One line of the parameter table. The lower end of the resume level's range moves with the charge floor. -/
structure ParamRow where
  number : Nat
  low    : Params → Nat
  high   : Nat
  get    : Params → Nat

/-- The parameter table of R188. -/
def paramTable : List ParamRow :=
  [ ⟨0x01, fun _ => 0, 65535, (·.lightFloor)⟩, ⟨0x02, fun _ => 0, 4, (·.smoothing)⟩,
    ⟨0x03, fun _ => 0, 4096, (·.thr1)⟩, ⟨0x04, fun _ => 0, 4096, (·.thr2)⟩, ⟨0x05, fun _ => 0, 4096, (·.thr3)⟩,
    ⟨0x06, fun _ => 0, 4096, (·.tiltPenalty)⟩, ⟨0x07, fun _ => 3600, 2592000, (·.payback)⟩,
    ⟨0x08, fun _ => 60, 7200, (·.cleaningHold)⟩, ⟨0x09, fun _ => 0, 255, (·.creditWindow)⟩,
    ⟨0x0A, fun _ => 10, 600, (·.confirmTimeout)⟩, ⟨0x0B, fun _ => 300, 14400, (·.holdLimit)⟩,
    ⟨0x0C, fun _ => 1, 8, (·.roundLength)⟩, ⟨0x0D, fun _ => 5, 80, (·.chargeFloor)⟩,
    ⟨0x0E, fun p => p.chargeFloor + 10, 100, (·.resumeLevel)⟩, ⟨0x0F, fun _ => 30, 900, (·.stepTimeout)⟩,
    ⟨0x10, fun _ => 1, 10, (·.pollInterval)⟩, ⟨0x11, fun _ => 1, 4095, (·.factorA)⟩,
    ⟨0x12, fun _ => 1, 4095, (·.factorB)⟩, ⟨0x13, fun _ => 0, 1000, (·.watchGust)⟩,
    ⟨0x14, fun _ => 0, 1000, (·.watchSustained)⟩, ⟨0x15, fun _ => 0, 1000, (·.parkGust)⟩,
    ⟨0x16, fun _ => 0, 1000, (·.parkSustained)⟩, ⟨0x17, fun _ => 0, 1000, (·.stowGust)⟩,
    ⟨0x18, fun _ => 0, 1000, (·.stowSustained)⟩, ⟨0x19, fun _ => 60, 3600, (·.parkDeadline)⟩,
    ⟨0x1A, fun _ => 300, 7200, (·.calmHoldoff)⟩, ⟨0x1B, fun _ => 10, 120, (·.silenceLimit)⟩,
    ⟨0x1C, fun _ => 1, 8, (·.bitPeriod)⟩ ]

/-- From `p` to `q`, the parameter of the line takes the value clamped to its range, a charge floor raises a resume level
below it, and every other parameter stands (R188). -/
abbrev ParamRow.Stored (x : ParamRow) (value : Nat) (p q : Params) : Prop :=
  x.get q = (if value < x.low p then x.low p else min x.high value)
    ∧ ∀ y ∈ paramTable, y.number ≠ x.number →
        y.get q = if x.number = 0x0D ∧ y.number = 0x0E then max (y.get p) (x.get q + 10) else y.get p

/-- The block after a hand of a level that is no rise, in a weather other than RECOVER (R163, R165). -/
def Block.handed (e : Env) (l : Level) (b : Block) : Block :=
  let c := { b with level := l }
  if l = .none then
    if (b.weather = .watch ∨ b.weather = .park ∨ b.weather = .stow) ∧ b.armed .calmHoldoff = false then
      c.arm e .calmHoldoff e.params.calmHoldoff
    else c
  else c.cancel .calmHoldoff

/-- The row's return state (R26): FAULTED with the flag cleared, and otherwise by the weather. -/
def RowState.returned (w : Weather) (x : RowState) : RowState :=
  if x.faultNoted then { x with tracker := .faulted, faultNoted := false, resumeWanted := false, cls := 0 }
  else if w = .park ∨ w = .stow then { x with tracker := .stowReleased, resumeWanted := false }
  else { x with tracker := .tracking, resumeWanted := true }

/-! ## Invariants of the records -/

/-- Every parameter lies in its range (R188). -/
abbrev Params.InRange (p : Params) : Prop :=
  p.lightFloor ≤ 65535 ∧ p.smoothing ≤ 4 ∧ p.thr1 ≤ 4096 ∧ p.thr2 ≤ 4096 ∧ p.thr3 ≤ 4096 ∧ p.tiltPenalty ≤ 4096
    ∧ (3600 ≤ p.payback ∧ p.payback ≤ 2592000) ∧ (60 ≤ p.cleaningHold ∧ p.cleaningHold ≤ 7200) ∧ p.creditWindow ≤ 255
    ∧ (10 ≤ p.confirmTimeout ∧ p.confirmTimeout ≤ 600) ∧ (300 ≤ p.holdLimit ∧ p.holdLimit ≤ 14400)
    ∧ (1 ≤ p.roundLength ∧ p.roundLength ≤ 8) ∧ (5 ≤ p.chargeFloor ∧ p.chargeFloor ≤ 80)
    ∧ (p.chargeFloor + 10 ≤ p.resumeLevel ∧ p.resumeLevel ≤ 100) ∧ (30 ≤ p.stepTimeout ∧ p.stepTimeout ≤ 900)
    ∧ (1 ≤ p.pollInterval ∧ p.pollInterval ≤ 10) ∧ (1 ≤ p.factorA ∧ p.factorA ≤ 4095)
    ∧ (1 ≤ p.factorB ∧ p.factorB ≤ 4095) ∧ p.watchGust ≤ 1000 ∧ p.watchSustained ≤ 1000 ∧ p.parkGust ≤ 1000
    ∧ p.parkSustained ≤ 1000 ∧ p.stowGust ≤ 1000 ∧ p.stowSustained ≤ 1000
    ∧ (60 ≤ p.parkDeadline ∧ p.parkDeadline ≤ 3600) ∧ (300 ≤ p.calmHoldoff ∧ p.calmHoldoff ≤ 7200)
    ∧ (10 ≤ p.silenceLimit ∧ p.silenceLimit ≤ 120) ∧ (1 ≤ p.bitPeriod ∧ p.bitPeriod ≤ 8)

/-- The map, soiling and account fields of a row lie in their ranges (R1), the smoothed shortfall is at most the smoothed
expected output (R126), and only a present row is a cradle (R8). -/
abbrev RowData.InRange (d : RowData) : Prop :=
  (d.cradle = true → d.present = true) ∧ (2048 ≤ d.kc ∧ d.kc ≤ 6144) ∧ d.ss ≤ d.es ∧ d.es ≤ 98303 ∧ d.f ≤ 4096
    ∧ d.fPre ≤ 4096 ∧ d.credit ≤ 255 ∧ d.loss ≤ 2 ^ 48 - 1 ∧ d.recovered ≤ 2 ^ 48 - 1 ∧ d.holdSeconds ≤ 65535

/-- The fields of a report record lie in their ranges, and its counts agree with the next pair (R116, R120). -/
abbrev Report.InRange (x : Report) : Prop :=
  x.pref ≤ 65535 ∧ (1 ≤ x.t ∧ x.t ≤ 900) ∧ x.pairs.length ≤ 64 ∧ (1 ≤ x.next ∧ x.next ≤ x.pairs.length)
    ∧ x.processed + x.skipped + 1 = x.next

/-- The parameters, the rows' figures and the report records are in their ranges. -/
abbrev State.FiguresInRange (s : State) : Prop :=
  s.env.params.InRange ∧ (∀ r, (s.env.row r).InRange) ∧ (∀ x ∈ s.inFlight, x.InRange) ∧ ∀ x ∈ s.waiting, x.InRange

/-- The totals and counts of a bank lie in their ranges (R137, R140). -/
abbrev Bank.InRange (x : Bank) : Prop :=
  x.loss ≤ 2 ^ 48 - 1 ∧ x.gain ≤ 2 ^ 48 - 1 ∧ x.recovered ≤ 2 ^ 48 - 1 ∧ x.holdCost ≤ 2 ^ 48 - 1
    ∧ x.stormSeconds ≤ 2 ^ 32 - 1 ∧ x.reports ≤ 65535 ∧ x.lowLight ≤ x.reports

/-- Both period banks are in range. -/
abbrev State.BanksInRange (s : State) : Prop := s.live.InRange ∧ s.closed.bank.InRange

/-- A mast record is in its ranges (R151); its running sum is the sum of its ring, its gust the largest speed of its
window (R157), and a FAULTED mast holds no entered speed (R156). -/
abbrev MastRec.InRange (x : MastRec) : Prop :=
  x.pulses ≤ 65535 ∧ (∀ c ∈ x.pending, c ≤ 65535) ∧ x.lost ≤ 65535 ∧ x.speed ≤ 1000
    ∧ x.ring.length ≤ 60 ∧ (∀ q ∈ x.ring, q ≤ 1000000) ∧ x.sum = x.ring.sum
    ∧ x.window.length ≤ 3 ∧ (∀ v ∈ x.window, v ≤ 1000) ∧ x.gust = x.window.foldl max 0
    ∧ x.silence ≤ 120 ∧ x.overrun ≤ 3 ∧ x.recovery ≤ 10 ∧ (x.health = .faulted → x.ring = [] ∧ x.window = [])

/-- Both mast records are in range. -/
abbrev State.MastsInRange (s : State) : Prop := s.mastA.InRange ∧ s.mastB.InRange

/-- The class of a row that is LOCKED, STRANDED or tracker-FAULTED is 0 (R96), and RESUME_WANTED stands only on a TRACKING
row (R36). -/
abbrev RowState.MarksAgree (x : RowState) : Prop :=
  (x.locked.isSome = true ∨ x.stranded = true ∨ x.tracker = .faulted ∨ x.faultNoted = true → x.cls = 0)
    ∧ (x.resumeWanted = true → x.tracker = .tracking)

/-- The marks, classes and resume notices of every row agree. -/
abbrev Block.MarksAgree (b : Block) : Prop := ∀ r, (b.row r).MarksAgree

/-- The deadline list holds at most one entry of each kind and key, and at most one of a robot's two kinds (R15). -/
abbrev Block.KeysDistinct (b : Block) : Prop :=
  (b.deadlines.map Deadline.kind).Nodup
    ∧ ∀ d ∈ b.deadlines, ∀ k ∈ d.kind.sibling, k ∉ b.deadlines.map Deadline.kind

/-- A FAULTED link has no transaction in flight and none pending (R84, R85). -/
abbrev Block.LinkAgrees (b : Block) : Prop :=
  b.link.enabled = false → b.link.inFlight = none ∧ ∀ s : ShuttleId, b.link.queue[s] = none

/-- A FAULTED or OFFLINE shuttle is neither polled nor commanded: it has no poll due, and nothing is pending for it (R64). -/
abbrev Block.DownAreSilent (b : Block) : Prop :=
  ∀ u : ShuttleId, (b.shuttle u).mode = .faulted ∨ (b.shuttle u).mode = .offline →
    (b.shuttle u).pollDue = none ∧ b.link.queue[u] = none

/-- The holder of row `r` stands at its end while the hold is pending, and rides its surface otherwise (R4, R21, R43); a row that
is released for stow or stowed has no holder but a BRACED one (R21). A robot located on the surface of row `r` is its holder, and
the hold is not pending (R43). -/
abbrev Block.HoldsAgree (e : Env) (b : Block) : Prop :=
  (∀ r,
    let x := b.row r
    (x.tracker = .holdPending → x.holder ≠ none)
      ∧ ∀ k, x.holder = some k →
          let z := b.robot k
          (e.row r).present = true ∧ z.transfer = none
            ∧ (if x.tracker = .holdPending then z.location = .rowEnd r ∧ (z.mode = .waitHold ∨ z.mode = .faulted)
              else z.location = .onRow r ∧ (z.mode = .onRow ∨ z.mode = .braced ∨ z.mode = .faulted)
                ∧ x.tracker ≠ .tracking ∧ x.tracker ≠ .faulted)
            ∧ (x.tracker = .stowReleased ∨ x.tracker = .stowed → z.mode = .braced))
  ∧ ∀ k r, (b.robot k).location = .onRow r → (b.row r).holder = some k ∧ (b.row r).tracker ≠ .holdPending

/-- Robots and transfer records name each other (R62, R63): a record's robot names its tag; a robot that waits for no transfer has
none; one aboard a shuttle has its record there; a dispatched record is its shuttle's current one, and a running one's shuttle
is MOVING or DOCKING. Every place named is a present row (R5). -/
abbrev Block.RecordsAgree (e : Env) (b : Block) : Prop :=
  b.usedTags.Nodup
    ∧ (∀ k,
        let z := b.robot k
        ((z.mode = .absent ∨ z.mode = .idle ∨ z.mode = .waitHold ∨ z.mode = .onRow ∨ z.mode = .braced
            ∨ z.location = .unknown) → z.transfer = none)
          ∧ (∀ r, z.mode ≠ .absent → (z.location = .rowEnd r ∨ z.location = .onRow r) → (e.row r).present = true)
          ∧ ∀ u tag, z.location = .carried u → z.transfer = some tag →
              ∃ t ∈ (b.shuttle u).queue, t.tag = tag ∧ t.robot = k)
    ∧ ∀ u, ∀ t ∈ (b.shuttle u).queue,
        (b.robot t.robot).transfer = some t.tag
          ∧ (∀ r, t.source = .rowEnd r → (e.row r).present = true)
          ∧ (∀ r, t.dest = .rowEnd r → (e.row r).present = true)
          ∧ (t.step ≠ .queued → (b.shuttle u).current = some t.tag)
          ∧ ∀ x, t.step = .running x → (b.shuttle u).mode = .moving ∨ (b.shuttle u).mode = .docking

/-- STOWD is asserted in STOW and in no other weather state (R162, R175, R176). -/
abbrev Block.StowdAgrees (b : Block) : Prop := b.stowd = true ↔ b.weather = .stow

/-- The replies and the reservations of every port fit its 4 places (R119, R184). -/
abbrev State.PlacesInRange (s : State) : Prop := ∀ p, (s.port p).replies.length + s.reservedPlaces p ≤ 4

end Sys2Proof.Machine
end

