-- ==== Sys2Proof/Certificates/Slice0/Obligations.lean ====
section
/-! DEFINITION. The statements for the provers. Each docstring names the rules of spec/ a statement formalises; what rests on
a choice of the model names its log entry. A statement of a command's own effect is an equation for its next state, or names
the next state and everything in it that may differ from the state before, so that it carries its frame. -/

open Sys2Proof Sys2Proof.Machine

/-! ## The machine -/

/-- The command at the front of the queue is taken, and runs on the state with the queue's rest. On an empty queue the part
idles (the model's choice, log entry 1). -/
def Obligations.StepTakesTheFront : Prop :=
  (∀ (s : State) (c : Instr) (rest : List Instr), s.pending = c :: rest → step s = exec c { s with pending := rest })
    ∧ (∀ (s : State) (c : Instr), step (s.withFront c) = exec c s)
    ∧ ∀ s : State, s.pending = [] → step s = .next s

/-- The values of every block at the release of RESETn (R190, with R10, R13, R20, R41, R42, R87, R116, R137, R150, R151,
R162 and R188), from every state. The queue of commands, the level of CONTEND and the model's counter of free values stand
(the model's choice, log entry 5). `State.reset` holds the same values, with CONTEND deasserted (log entry 5). -/
def Obligations.PowerOnValues : Prop :=
  let values := fun t : State =>
    t.inReset = false ∧ t.mapLoaded = false ∧ t.env.now = 0
      ∧ (∀ r, t.env.row r = {
          present := false, cradle := false, shuttle := none, kc := 4096, ss := 0, es := 0, f := 0, fPre := 0,
          credit := 0, lastCleaned := none, loss := 0, recovered := 0, saturated := false, holdSeconds := 0 })
      ∧ (∀ r, t.blk.row r = {
          holder := none, occupant := none, reservation := none, tracker := .tracking, faultNoted := false,
          locked := none, overstay := false, stranded := false, restart := false, resumeWanted := false,
          reservedBy := none, cls := 0 })
      ∧ (∀ k, t.blk.robot k = {
          mode := .absent, location := .nowhere, inGarage := false, battery := 0, order := .none, outcome := .none,
          transfer := none, stack := [], parkWait := false, chargeWait := false, chargeDeferred := false,
          faultPending := false, standing := .none })
      ∧ (∀ u, t.blk.shuttle u = {
          range := none, mode := .offline, position := none, load := none, current := none, pollDue := none,
          cause := none, queue := [], commandSent := false, lastFault := 0 })
      ∧ (t.blk.link.enabled = true ∧ (∀ u : ShuttleId, t.blk.link.queue[u] = none) ∧ t.blk.link.inFlight = none
          ∧ t.blk.link.lastServed = 3)
      ∧ (t.blk.weather = .start ∧ t.blk.level = .none ∧ t.blk.stowd = false ∧ t.blk.deadlinePassed = false
          ∧ t.blk.weatherChanged = false ∧ t.blk.linkFaultItem = false ∧ t.blk.deadlines = [])
      ∧ (∀ p, t.port p = { replies := [], refused := false, truncated := false, shifted := [] })
      ∧ t.inFlight = none ∧ t.waiting = none
      ∧ t.live = {
          loss := 0, gain := 0, recovered := 0, holdCost := 0, stormSeconds := 0, reports := 0, lowLight := 0,
          start := 0, saturated := false }
      ∧ t.closed = { bank := t.live, close := 0, read := true }
      ∧ (∀ m, t.mast m = {
          pulses := 0, pending := none, lost := 0, speed := 0, ring := [], sum := 0, window := [], gust := 0,
          health := .healthy, cause := none, silence := 0, overrun := 0, recovery := 0 })
      ∧ t.env.params = {
          lightFloor := 200, smoothing := 3, thr1 := 82, thr2 := 164, thr3 := 287, tiltPenalty := 1229,
          payback := 604800, cleaningHold := 900, creditWindow := 96, confirmTimeout := 120, holdLimit := 2700,
          roundLength := 4, chargeFloor := 30, resumeLevel := 90, stepTimeout := 180, pollInterval := 2,
          factorA := 1958, factorB := 1958, watchGust := 120, watchSustained := 90, parkGust := 160,
          parkSustained := 120, stowGust := 200, stowSustained := 150, parkDeadline := 600, calmHoldoff := 1800,
          silenceLimit := 30, bitPeriod := 4 }
  (∀ s : State, ∃ t, exec .powerOn s = .next t ∧ values t
      ∧ t.pending = s.pending ∧ t.contend = s.contend ∧ t.freeSeed = s.freeSeed)
    ∧ values State.reset ∧ State.reset.pending = [] ∧ State.reset.contend = false

/-- While RESETn is asserted the part takes no frame and none of its events comes, its attention lines and STOWD are low, and
the link lines and the SDO of every port are released (R190). RESETN_ASSERTED holds the pulse counters cleared (R190, R151).
That the other state stands until the release, and that the level of CONTEND is followed, is the model's choice (log entry
23). -/
def Obligations.ResetHoldsThePart : Prop :=
  (∀ s : State, exec .resetnAsserted s = .next
      { s with
        inReset := true, mastA := { s.mastA with pulses := 0 }, mastB := { s.mastB with pulses := 0 } })
    ∧ (∀ (c : Instr) (s : State), s.inReset = true → c.WellFormed → c ≠ .resetnAsserted → c ≠ .powerOn →
        c ≠ .contendAsserted → c ≠ .contendDeasserted → exec c s = .next s)
    ∧ (∀ s : State, s.inReset = true →
        exec .contendAsserted s = .next { s with contend := true }
          ∧ exec .contendDeasserted s = .next { s with contend := false })
    ∧ ∀ s : State, s.inReset = true →
        (∀ p, s.atn p = false) ∧ s.stowdPin = false ∧ (∀ p selLow i, s.sdo p selLow i = none)
          ∧ s.linkLines = { clk := .released, dat := .released, sel := Vector.replicate 4 .released }

/-! ## Ports and frames (chapter 11) -/

/-- Case 5 of R182: with no place of the reply queue free, a request of any kind is not executed and gets no reply; bit 5 is set
and bit 4 cleared. The status byte is all that was shifted out (R180). The port interface's own checks of R182, case 6, in
their order: a length above 250, a request not permitted on the port, a row request before the first MAP BAY (R6), a wrong
payload length. A refused request changes nothing else (R183). -/
def Obligations.PortChecksInOrder : Prop :=
  (∀ (c : Instr) (q : Request) (f : Frame) (s : State), requestFrame c = some (q, f) → s.inReset = false →
     s.freePlaces f.port = 0 →
       exec c s = .next
         (s.modPort f.port fun x =>
           { x with shifted := [s.statusByte f.port], refused := true, truncated := false }))
  ∧ (∀ (c : Instr) (q : Request) (f : Frame) (s : State), requestFrame c = some (q, f) → s.inReset = false →
       s.freePlaces f.port ≠ 0 →
         (250 < f.len.toNat → exec c s = .next (answered q f { code := .badValue } s))
           ∧ (f.len.toNat ≤ 250 → q.on f.port = false → exec c s = .next (answered q f { code := .notHere } s))
           ∧ (f.len.toNat ≤ 250 → q.on f.port = true → q.row = true → s.mapLoaded = false →
               exec c s = .next (answered q f { code := .noMap } s))
           ∧ ∀ n, f.len.toNat ≤ 250 → q.on f.port = true → (q.row = true → s.mapLoaded = true) → q.len = some n →
               f.len.toNat ≠ n → exec c s = .next (answered q f { code := .badValue } s))

/-- The bits of the status byte (R181), the three attention sets that bit 6 shows (R37, R47, R148), and the attention lines
(R185). -/
def Obligations.StatusByteAndAttention : Prop :=
  ∀ s : State,
    (∀ p, (s.statusByte p).getLsbD 7 = !(s.port p).replies.isEmpty ∧ (s.statusByte p).getLsbD 6 = s.attention p
      ∧ (s.statusByte p).getLsbD 5 = (s.port p).refused ∧ (s.statusByte p).getLsbD 4 = (s.port p).truncated
      ∧ (s.statusByte p).getLsbD 3 = (p == .plant && (s.inFlight.isNone || s.waiting.isNone))
      ∧ (s.statusByte p).getLsbD 2 = false
      ∧ (s.statusByte p).toNat % 4 = (match p with | .plant => 1 | .tracker => 2 | .fleet => 3)
      ∧ s.atn p = (!s.inReset && s.attention p))
    ∧ (s.attention .plant = true ↔
        s.closed.read = false ∨ (∃ x ∈ s.plant.replies, x.kind = 0x14 ∧ x.outcome = 0) ∨ s.blk.weatherChanged = true
          ∨ s.blk.linkFaultItem = true ∨ ∃ r, (s.env.row r).present = true ∧ (s.blk.row r).locked = some .fleetReset)
    ∧ (s.attention .tracker = true ↔
        ∃ r, (s.env.row r).present = true
          ∧ (((s.blk.row r).tracker = .held ∧ (s.blk.row r).stranded = true) ∨ (s.blk.row r).tracker = .holdPending
            ∨ (s.blk.row r).tracker = .stowReleased ∨ (s.blk.row r).tracker = .unstowWanted
            ∨ ((s.blk.row r).tracker = .tracking ∧ (s.blk.row r).resumeWanted = true)))
    ∧ (s.attention .fleet = true ↔
        ∃ k, (s.blk.robot k).mode ≠ .absent ∧ ((s.blk.robot k).order ≠ .none ∨ (s.blk.robot k).outcome ≠ .none))

/-- FETCH (R184): the status byte, two bytes of 0, then the oldest reply or the empty reply; the reply leaves the queue when
every byte of it was clocked, and otherwise stays with bit 4 set. Of the byte begun after the last whole one the bits are
shifted out too (R180). A fetch is never refused for a full queue. -/
def Obligations.FetchShiftsTheOldestReply : Prop :=
  ∀ (p : Port) (n : Nat) (s : State), s.inReset = false → 3 ≤ n →
    ((s.port p).replies = [] →
      exec (.fetch p n) s = .next
        (s.modPort p fun x =>
          { x with shifted := [s.statusByte p, 0, 0, 0, 0, 0, 0].take (n + 1), refused := false, truncated := false }))
    ∧ ∀ (y : Reply) (rest : List Reply), (s.port p).replies = y :: rest →
        let out := ([s.statusByte p, 0, 0, y.tag, y.kind, y.outcome, BitVec.ofNat 8 y.payload.length] ++ y.payload).take (n + 1)
        (7 + y.payload.length ≤ n →
          exec (.fetch p n) s = .next
            (s.modPort p fun x =>
              { x with replies := rest, shifted := out, refused := false, truncated := false }))
        ∧ (n < 7 + y.payload.length →
            exec (.fetch p n) s = .next
              (s.modPort p fun x => { x with shifted := out, refused := false, truncated := true }))

/-- The frames that are no request: a status read changes no bit, a truncated frame is discarded with bit 4 set and bit 5
cleared, a kind that is not in the catalogue or not on the port is answered NOT_HERE (R182, cases 2, 4 and 6), and PORT RESET
empties the port's queue, clears both bits and, on the plant port, removes the reports' reservations (R189, R122). The bits of
a frame are taken in bytes, most significant bit first, and the bits of a last byte that is not whole are discarded; SDO gives
the bits shifted out in that order, 0 after the last, while SEL is low, and is high-impedance while SEL is high (R180). In
every one of these frames, one of fewer bits than a byte among them, they are those of the status byte. -/
def Obligations.FramesThatAreNoRequest : Prop :=
  (∀ (p : Port) (n : Fin 3) (s : State), s.inReset = false →
      exec (.statusRead p n) s = .next
        (s.modPort p fun x => { x with shifted := [s.statusByte p] }))
    ∧ (∀ (p : Port) (s : State), s.inReset = false →
        exec (.truncatedFrame p) s = .next
          (s.modPort p fun x =>
            { x with shifted := [s.statusByte p], refused := false, truncated := true }))
    ∧ (∀ (f : Frame) (kind : Byte) (s : State), (Instr.unknownRequest f kind).WellFormed → s.inReset = false →
        exec (.unknownRequest f kind) s = .next
          (s.modPort f.port fun x =>
            if s.freePlaces f.port = 0 then
              { x with shifted := [s.statusByte f.port], refused := true, truncated := false }
            else
              { x with
                shifted := [s.statusByte f.port], refused := false, truncated := false
                replies := x.replies ++
                  [{ tag := f.tag, kind := kind, outcome := if 250 < f.len.toNat then 7 else 8, payload := [] }] }))
    ∧ (∀ (p : Port) (s : State), s.inReset = false →
        ∃ t, exec (.portReset p) s = .next t
          ∧ t.port p = { replies := [], refused := false, truncated := false, shifted := [s.statusByte p] }
          ∧ (∀ q, q ≠ p → t.port q = s.port q)
          ∧ t.inFlight = (if p = .plant then s.inFlight.map fun x => { x with reserved := false } else s.inFlight)
          ∧ t.waiting = (if p = .plant then s.waiting.map fun x => { x with reserved := false } else s.waiting)
          ∧ t = { s with
              plant := t.plant, tracker := t.tracker, fleet := t.fleet, inFlight := t.inFlight, waiting := t.waiting })
    ∧ (∀ (p : Port) (bytes : List Byte) (tail : List Bool), tail.length < 8 →
        frameOfBits p ((bytes.flatMap byteBits) ++ tail) = frameCommand p bytes)
    ∧ ∀ (p : Port) (s : State) (i : Nat), s.inReset = false →
        s.sdo p false i = none
          ∧ s.sdo p true i = some (((s.port p).shifted.getD (i / 8) 0).getLsbD (7 - i % 8))

/-- Step 2 of R6 and the robot checks: a row request whose row is not present is answered BAD_ROW, and a request whose robot
number is outside 0..23 is answered BAD_ROBOT, after the map checks where it names a row. Nothing else changes (R183). -/
def Obligations.RowsAndRobotsOutOfTheMap : Prop :=
  (∀ (c : Instr) (q : Request) (f : Frame) (r : RowId) (s : State),
      (c = .readRow f r ∨ c = .lockRow f r ∨ c = .restoreRow f r ∨ (∃ kc, c = .calibrateRow f r kc) ∨ c = .holdConfirm f r
        ∨ c = .stowDone f r ∨ c = .unstowDone f r ∨ c = .rowFault f r ∨ c = .rowReady f r
        ∨ (∃ k, c = .enroll f k r ∨ c = .enterRow f k r ∨ c = .transfer f k (.rowEnd r))) →
      requestFrame c = some (q, f) → Taken q f s → (s.env.row r).present = false →
        exec c s = .next (answered q f { code := .badRow } s))
    ∧ ∀ (c : Instr) (q : Request) (f : Frame) (robot : Byte) (s : State),
        (c = .readRobot f robot ∨ c = .withdraw f robot ∨ (∃ b x a, c = .robotStatus f robot b x a)
          ∨ c = .requestWork f robot ∨ c = .exitRow f robot ∨ c = .cleanDone f robot ∨ c = .cleanAbort f robot
          ∨ c = .braced f robot ∨ c = .unbraced f robot ∨ c = .transfer f robot .garage
          ∨ (∃ r, (s.env.row r).present = true
              ∧ (c = .enroll f robot r ∨ c = .enterRow f robot r ∨ c = .transfer f robot (.rowEnd r)))) →
        requestFrame c = some (q, f) → Taken q f s → 24 ≤ robot.toNat →
          exec c s = .next (answered q f { code := .badRobot } s)

/-! ## The row table and the time base (chapter 1) -/

/-- READ_ROW of a present row answers the 42 bytes of R187 (R135), and changes nothing but the model's counter of free values
(log entry 8). The bytes of last cleaned for a row never cleaned and the cause bit of an unlocked row are free values. -/
def Obligations.ReadRowLayout : Prop :=
  ∀ (f : Frame) (r : RowId) (s : State), Taken .readRow f s → (s.env.row r).present = true → (s.env.row r).InRange →
    let d := s.env.row r
    let x := s.blk.row r
    ∃ p : List Byte,
      exec (.readRow f r) s = .next
        { answered .readRow f { code := .ok, payload := p } s with freeSeed := s.freeSeed + 1 }
      ∧ p.length = 42
      ∧ fieldAt p 0 1 = r.val
      ∧ ((byteAt p 1).getLsbD 0 = d.present ∧ (byteAt p 1).getLsbD 1 = d.cradle)
      ∧ fieldAt p 2 1 = orNone d.shuttle ∧ fieldAt p 3 2 = d.kc
      ∧ fieldAt p 5 1 = orNone x.holder ∧ fieldAt p 6 1 = orNone x.occupant ∧ fieldAt p 7 1 = orNone x.reservation
      ∧ ((byteAt p 8).toNat % 8 = (match x.tracker with
            | .tracking => 0 | .holdPending => 1 | .held => 2 | .stowReleased => 3 | .stowed => 4 | .unstowWanted => 5
            | .faulted => 6)
          ∧ (byteAt p 8).getLsbD 7 = x.faultNoted)
      ∧ ((byteAt p 9).getLsbD 0 = x.locked.isSome ∧ (∀ c, x.locked = some c → (byteAt p 9).getLsbD 1 = (c == .fleetReset))
          ∧ (byteAt p 9).getLsbD 2 = x.overstay ∧ (byteAt p 9).getLsbD 3 = x.stranded
          ∧ (byteAt p 9).getLsbD 4 = x.restart ∧ (byteAt p 9).getLsbD 5 = x.resumeWanted)
      ∧ fieldAt p 10 1 = orNone x.reservedBy
      ∧ fieldAt p 11 3 = d.ss ∧ fieldAt p 14 3 = d.es ∧ fieldAt p 17 2 = d.f ∧ fieldAt p 19 1 = x.cls.val
      ∧ fieldAt p 20 2 = d.fPre ∧ fieldAt p 22 1 = d.credit
      ∧ ((byteAt p 23).getLsbD 0 = d.lastCleaned.isSome ∧ (byteAt p 23).getLsbD 1 = d.saturated)
      ∧ (∀ c, d.lastCleaned = some c → fieldAt p 24 4 = c.toNat)
      ∧ fieldAt p 28 6 = d.loss ∧ fieldAt p 34 6 = d.recovered ∧ fieldAt p 40 2 = d.holdSeconds

/-- The READ requests of robots, shuttles and the weather answer OK with the fields of the record they name and change nothing
(R49, R80, R87, R161, R179), but for the two flags that a read from the plant port clears (R148). The times remaining are those
of R20, where the list holds no key twice. The order of the fields that no table of R187 lays out is the model's reading (log
entries 10 and 11), that the bits which no rule names are 0 in a round's flags byte and an entry's byte is its choice (log entry
9), and so is the poll due of 0 (log entry 4). -/
def Obligations.ReadsChangeNothing : Prop :=
  let flag := fun x : Bool => if x then 1 else 0
  (∀ (f : Frame) (robot : Byte) (k : RobotId) (s : State), Taken .readRobot f s → robot.toNat = k.val →
      (s.blk.robot k).battery ≤ 100 → s.blk.KeysDistinct →
      let x := s.blk.robot k
      ∃ p tasks : List Byte, exec (.readRobot f robot) s = .next (answered .readRobot f { code := .ok, payload := p } s)
        ∧ p.length = 18 + tasks.length ∧ (p.drop 15).take tasks.length = tasks
        ∧ fieldAt p 0 1 = x.mode.code ∧ (fieldAt p 1 1, fieldAt p 2 1) = x.location.code
        ∧ fieldAt p 3 1 = flag x.inGarage ∧ fieldAt p 4 1 = x.battery
        ∧ (fieldAt p 5 1, fieldAt p 6 1) = x.order.code ∧ (fieldAt p 7 1, fieldAt p 8 1) = x.outcome.code
        ∧ fieldAt p 9 1 = orNone x.transfer ∧ fieldAt p 10 1 = flag x.parkWait ∧ fieldAt p 11 1 = flag x.chargeWait
        ∧ fieldAt p 12 1 = flag x.chargeDeferred ∧ fieldAt p 13 1 = flag x.faultPending
        ∧ fieldAt p 14 1 = x.stack.length % 256
        ∧ tasks.map BitVec.toNat = (x.stack.flatMap fun t =>
            match t with
            | .charge => [1]
            | .park => [2]
            | .round rd => [0, rd.start.val, flag rd.paused, rd.entries.length % 256]
                ++ rd.entries.flatMap fun y => [y.row.val, y.state.code + 4 * flag y.entered + 8 * y.reasonCode])
        ∧ (∀ d ∈ s.blk.deadlines, (d.kind = .holdConfirm k ∨ d.kind = .holdLimit k) → d.remaining s.env.now < 65536 →
            fieldAt p (15 + tasks.length) 2 = d.remaining s.env.now)
        ∧ ((∀ d ∈ s.blk.deadlines, d.kind ≠ .holdConfirm k ∧ d.kind ≠ .holdLimit k) → fieldAt p (15 + tasks.length) 2 = 0)
        ∧ fieldAt p (17 + tasks.length) 1 = x.standing.code)
    ∧ (∀ (f : Frame) (shuttle : Byte) (u : ShuttleId) (s : State), Taken .readShuttle f s → shuttle.toNat = u.val →
        (∀ n, (s.blk.shuttle u).pollDue = some n → n ≤ 10) → s.blk.KeysDistinct →
        let x := s.blk.shuttle u
        ∃ p queue : List Byte, exec (.readShuttle f shuttle) s = .next
            { answered .readShuttle f { code := .ok, payload := p } s with
              blk := { s.blk with
                linkFaultItem := s.blk.linkFaultItem && !(f.port == .plant && s.blk.link.enabled) } }
          ∧ p.length = 14 + queue.length ∧ (p.drop 11).take queue.length = queue
          ∧ (fieldAt p 0 1, fieldAt p 1 1) = (match x.range with | some (lo, hi) => (lo.val, hi.val) | none => (255, 255))
          ∧ fieldAt p 2 1 = x.mode.code
          ∧ fieldAt p 3 1 = (match x.position with | some (.rowEnd r) => r.val | some .garage => 254 | none => 255)
          ∧ fieldAt p 4 1 = orNone x.load ∧ fieldAt p 5 1 = orNone x.current ∧ fieldAt p 6 1 = x.pollDue.getD 0
          ∧ fieldAt p 7 1 = x.causeCode
          ∧ (∀ d ∈ s.blk.deadlines, d.kind = .shuttleStep u → d.remaining s.env.now < 65536 →
              fieldAt p 8 2 = d.remaining s.env.now)
          ∧ ((∀ d ∈ s.blk.deadlines, d.kind ≠ .shuttleStep u) → fieldAt p 8 2 = 0)
          ∧ fieldAt p 10 1 = x.queue.length % 256
          ∧ queue.map BitVec.toNat = (x.queue.flatMap fun t =>
              [t.tag.val, t.robot.val]
                ++ (match t.source with | .rowEnd r => [0, r.val] | .carried v => [1, v.val])
                ++ (match t.dest with | .rowEnd r => [0, r.val] | .garage => [2, 255])
                ++ [t.origin.code, if t.origin = .park ∨ t.origin = .recovery then 1 else 0]
                ++ (match t.step with | .queued => [0, 255] | .running y => [y.code, 255] | .inDoubt y => [5, y.code]))
          ∧ fieldAt p (11 + queue.length) 1 = (if s.blk.link.enabled then 0 else 1)
          ∧ fieldAt p (12 + queue.length) 1 = flag s.contend ∧ fieldAt p (13 + queue.length) 1 = x.lastFault.toNat)
    ∧ (∀ (f : Frame) (shuttle : Byte) (s : State), Taken .readShuttle f s → 4 ≤ shuttle.toNat →
        exec (.readShuttle f shuttle) s = .next (answered .readShuttle f { code := .badValue } s))
    ∧ ∀ (f : Frame) (s : State), Taken .readWeather f s → s.MastsInRange → s.blk.KeysDistinct →
        let mast := fun (p : List Byte) (x : MastRec) =>
          fieldAt p 0 1 = (if x.health = .faulted then 1 else 0)
            ∧ fieldAt p 1 1 = (match x.cause with | some .silent => 0 | some .overrun => 1 | none => 2)
            ∧ fieldAt p 2 2 = x.speed ∧ fieldAt p 4 2 = x.gust ∧ fieldAt p 6 4 = x.sum ∧ fieldAt p 10 1 = x.ring.length
            ∧ fieldAt p 11 1 = (x.level s.env.params).code ∧ fieldAt p 12 1 = x.silence ∧ fieldAt p 13 1 = x.overrun
            ∧ fieldAt p 14 1 = x.recovery ∧ fieldAt p 15 2 = x.lost
        let parked := fun which : Robot → Prop => fun n : Nat =>
          ∃ ks : List RobotId, ks.Nodup ∧ ks.length = n
            ∧ ∀ k, k ∈ ks ↔ (s.blk.robot k).mode ≠ .absent ∧ RobotTask.park ∈ (s.blk.robot k).stack ∧ which (s.blk.robot k)
        ∃ p, exec (.readWeather f) s = .next
            { answered .readWeather f { code := .ok, payload := p } s with
              blk := { s.blk with weatherChanged := s.blk.weatherChanged && !(f.port == .plant) } }
          ∧ p.length = 46 ∧ mast (p.take 17) s.mastA ∧ mast ((p.drop 17).take 17) s.mastB
          ∧ fieldAt p 34 1 = (blockLevel s.env.params s.mastA s.mastB).code
          ∧ fieldAt p 35 1 = s.blk.weather.code ∧ fieldAt p 36 1 = s.blk.level.code ∧ fieldAt p 37 1 = flag s.blk.stowd
          ∧ fieldAt p 38 1 = flag s.blk.deadlinePassed
          ∧ (∀ kind, ∀ offset : Nat, (kind = .parkDeadline ∧ offset = 39 ∨ kind = .calmHoldoff ∧ offset = 41) →
              (∀ d ∈ s.blk.deadlines, d.kind = kind → d.remaining s.env.now < 65536 →
                  fieldAt p offset 2 = d.remaining s.env.now)
                ∧ ((∀ d ∈ s.blk.deadlines, d.kind ≠ kind) → fieldAt p offset 2 = 0))
          ∧ parked (fun _ => True) (fieldAt p 43 1) ∧ parked (fun x => x.standing = .safe) (fieldAt p 44 1)
          ∧ parked (fun x => x.standing = .unparked) (fieldAt p 45 1)

/-- MAP_BAY (R7, R8, R9): the 16 rows of the bay take the entries and the values of R1, a present row in PARK or STOW is
released for stow, the two counts are answered, and nothing else changes but the weather state: in RECOVER the test of R177
follows (the model's reading, log entry 19), and with no robot enrolled CALM entry changes no other record. -/
def Obligations.MapBayLoads : Prop :=
  ∀ (f : Frame) (bay : Byte) (entries : Vector PlaceEntry 16) (s : State), Taken .mapBay f s →
    (16 ≤ bay.toNat → exec (.mapBay f bay entries) s = .next (answered .mapBay f { code := .badValue } s))
    ∧ (bay.toNat < 16 → (∃ k, (s.blk.robot k).mode ≠ .absent) →
        exec (.mapBay f bay entries) s = .next (answered .mapBay f { code := .state } s))
    ∧ (bay.toNat < 16 → (∀ k, (s.blk.robot k).mode = .absent) →
        ∃ t, exec (.mapBay f bay entries) s = .next t
          ∧ (∀ r : RowId, r.val / 16 = bay.toNat →
              let x := entries[r.val % 16]'(Nat.mod_lt _ (by decide))
              t.env.row r = {
                  present := x.present, cradle := x.present && x.cradle, shuttle := s.blk.rangeShuttle r
                  kc := min 6144 (max 2048 x.kc.toNat), ss := 0, es := 0, f := 0, fPre := 0, credit := 0
                  lastCleaned := none, loss := 0, recovered := 0, saturated := false, holdSeconds := 0 }
                ∧ t.blk.row r = {
                  holder := none, occupant := none, reservation := none
                  tracker := if x.present ∧ (s.blk.weather = .park ∨ s.blk.weather = .stow) then .stowReleased
                    else .tracking
                  faultNoted := false, locked := none, overstay := false, stranded := false, restart := false
                  resumeWanted := false, reservedBy := none, cls := 0 })
          ∧ (∀ r : RowId, r.val / 16 ≠ bay.toNat → t.env.row r = s.env.row r ∧ t.blk.row r = s.blk.row r)
          ∧ t = { answered .mapBay f
                { code := .ok
                  payload :=
                    [BitVec.ofNat 8 (entries.toList.countP fun x => x.present),
                      BitVec.ofNat 8 (entries.toList.countP fun x => x.kc.toNat < 2048 || 6144 < x.kc.toNat)] } s with
              mapLoaded := true, env := { s.env with data := t.env.data }
              blk := { s.blk with
                rows := t.blk.rows, weather := t.blk.weather, weatherChanged := t.blk.weatherChanged } }
          ∧ (let left := s.blk.weather = .recover ∧ s.blk.level = .none
                ∧ ∀ r, (t.env.row r).present = true → (t.blk.row r).tracker ≠ .stowed ∧ (t.blk.row r).tracker ≠ .unstowWanted
            (left → t.blk.weather = .calm ∧ t.blk.weatherChanged = true)
              ∧ (¬ left → t.blk.weather = s.blk.weather ∧ t.blk.weatherChanged = s.blk.weatherChanged)))

/-- SET_SHUTTLE (R11, R12): the checks in their order; an accepted range makes the shuttle LOCAL with a STATUS placed, and
none makes it OFFLINE with its pending transaction withdrawn; the discard mark is set on its transaction in flight (R86), and
the shuttle field of the rows of the old and new range is derived anew (R3). Which further fields none clears is the model's
choice (log entry 15). -/
def Obligations.SetShuttleGivesTheRange : Prop :=
  ∀ (f : Frame) (shuttle first last : Byte) (s : State), Taken .setShuttle f s →
    let none' := first = 0xFF ∧ last = 0xFF
    let run := first.toNat ≤ last.toNat ∧ last.toNat < 16
    let answer := fun c : Code => exec (.setShuttle f shuttle first last) s = .next (answered .setShuttle f { code := c } s)
    (4 ≤ shuttle.toNat ∨ ¬ (none' ∨ run) → answer .badValue)
    ∧ ∀ u : ShuttleId, shuttle.toNat = u.val → (none' ∨ run) →
        ((∃ k, (s.blk.robot k).mode ≠ .absent) → answer .state)
        ∧ ((∀ k, (s.blk.robot k).mode = .absent) → run →
            (∃ v lo hi, v ≠ u ∧ (s.blk.shuttle v).range = some (lo, hi) ∧ first.toNat ≤ hi.val ∧ lo.val ≤ last.toNat) →
              answer .badValue)
        ∧ ((∀ k, (s.blk.robot k).mode = .absent) →
            (∀ v lo hi, v ≠ u → (s.blk.shuttle v).range = some (lo, hi) →
              none' ∨ hi.val < first.toNat ∨ last.toNat < lo.val) →
            ∃ t, exec (.setShuttle f shuttle first last) s = .next t
              ∧ t = { answered .setShuttle f { code := .ok } s with
                  env := { s.env with data := t.env.data }, blk := t.blk }
              ∧ (∀ r : RowId,
                  t.env.row r = { s.env.row r with
                    shuttle := if inRange r (s.blk.shuttle u).range || inRange r (t.blk.shuttle u).range
                      then t.blk.rangeShuttle r else (s.env.row r).shuttle }
                  ∧ (inRange r (t.blk.shuttle u).range = true → t.blk.rangeShuttle r = some u))
              ∧ (run → MadeLocal u
                  (s.blk.modShuttle u fun x =>
                    { x with range := some (Fin.ofNat 16 first.toNat, Fin.ofNat 16 last.toNat) }) t.blk)
              ∧ (none' →
                  t.blk = { s.blk.modShuttle u (fun x =>
                      { x with
                        range := none, mode := .offline, position := none, pollDue := none, cause := none
                        commandSent := false }) with
                    link := { s.blk.link with
                      queue := s.blk.link.queue.set u none
                      inFlight := s.blk.link.inFlight.map fun x =>
                        if x.shuttle = u then { x with discard := true } else x } }))

/-- SET_TIME (R14): accepted for every value; the counter takes it, and every entry of the deadline list keeps its kind, its
place and its time remaining. -/
def Obligations.SetTimeKeepsTimeRemaining : Prop :=
  ∀ (f : Frame) (v : FarmSecond) (s : State), Taken .setTime f s →
    ∃ t, exec (.setTime f v) s = .next t
      ∧ t = { answered .setTime f { code := .ok } s with
          env := { s.env with now := v }, blk := { s.blk with deadlines := t.blk.deadlines } }
      ∧ (t.blk.deadlines.map fun d => (d.kind, d.remaining v)) = s.blk.deadlines.map fun d => (d.kind, d.remaining s.env.now)

/-- An arming (R16): the entry of the same kind and key and, for a robot, of its other kind, is removed; the new entry is due
after the duration and stands behind every entry with no more time remaining and before every other; the others keep their
order. A cancellation removes the entry of its kind and key alone (R17). -/
def Obligations.ArmingAndCancelling : Prop :=
  ∀ (e : Env) (b : Block) (kind : DeadlineKind) (n : Nat), n < 2 ^ 32 →
    ((b.deadlines.map fun d => d.remaining e.now).Pairwise (· ≤ ·) →
        ∃ front back, (b.arm e kind n).deadlines = front ++ { due := e.now + BitVec.ofNat 32 n, kind := kind } :: back
          ∧ front ++ back = (b.deadlines.filter fun d => d.kind != kind && some d.kind != kind.sibling)
          ∧ (∀ d ∈ front, d.remaining e.now ≤ n) ∧ (∀ d ∈ back, n < d.remaining e.now)
          ∧ ((b.arm e kind n).deadlines.map fun d => d.remaining e.now).Pairwise (· ≤ ·))
    ∧ (b.arm e kind n) = { b with deadlines := (b.arm e kind n).deadlines }
    ∧ (b.arm e kind n).timeLeft e kind = n
    ∧ (b.cancel kind) = { b with deadlines := (b.cancel kind).deadlines }
    ∧ (b.cancel kind).armed kind = false
    ∧ ∀ other, other ≠ kind → (b.cancel kind).timeLeft e other = b.timeLeft e other

/-- CONFIGURE of a parameter that is no wind threshold (R188): the value is clamped to the parameter's range, stored and
answered as stored; a charge floor raises the resume level; a number outside the table is answered BAD_VALUE. -/
def Obligations.ConfigureStoresTheClampedValue : Prop :=
  ∀ (f : Frame) (parameter : Byte) (value : BitVec 32) (s : State), Taken .configure f s →
    ((parameter.toNat = 0 ∨ 0x1C < parameter.toNat) →
      exec (.configure f parameter value) s = .next (answered .configure f { code := .badValue } s))
    ∧ ∀ x ∈ paramTable, parameter.toNat = x.number → ¬ (0x13 ≤ x.number ∧ x.number ≤ 0x18) →
        ∃ p : Params,
          exec (.configure f parameter value) s = .next
            { answered .configure f { code := .ok, payload := bytesOf 4 (x.get p) } s with env := { s.env with params := p } }
          ∧ x.Stored value.toNat s.env.params p

/-! ## Tracker holds and stow release (chapter 2) -/

/-- LOCK_ROW sets LOCKED (PLANT) and class 0 and changes nothing else (R39). RESTORE_ROW clears the mark, ends the hold of a
HELD row with no holder with its return state (R26), and sets the class anew (R97); a row without the mark is answered OK and
not changed (R40). -/
def Obligations.LockAndRestore : Prop :=
  (∀ (f : Frame) (r : RowId) (s : State), Taken .lockRow f s → (s.env.row r).present = true →
      exec (.lockRow f r) s = .next
        { answered .lockRow f { code := .ok } s with
          blk := s.blk.modRow r fun x => { x with locked := some .plant, cls := 0 } })
    ∧ ∀ (f : Frame) (r : RowId) (s : State), Taken .restoreRow f s → (s.env.row r).present = true →
        ((s.blk.row r).locked = none → exec (.restoreRow f r) s = .next (answered .restoreRow f { code := .ok } s))
        ∧ ((s.blk.row r).locked ≠ none →
            let x := { s.blk.row r with locked := none }
            let y := if x.tracker = .held ∧ x.holder = none then x.returned s.blk.weather else x
            let barred := y.stranded = true ∨ y.tracker = .faulted ∨ y.faultNoted = true
            exec (.restoreRow f r) s = .next
              { answered .restoreRow f { code := .ok } s with
                blk := s.blk.modRow r fun _ =>
                  { y with cls := if barred then 0 else classTest s.env.params (s.env.row r) y } })

/-- FETCH_ATTENTION (R37, R38): the tracker attention set has the rows and actions of R37, each row once, in ascending order;
the reply lists the first 32 of them at or above the start row, with the more flag, and the resume notices that were listed
are cleared. Nothing else changes. That the bits of the flags byte beside the more flag are 0 is the model's choice (log entry
9). -/
def Obligations.FetchAttentionLists : Prop :=
  (∀ (e : Env) (b : Block),
      (trackerAttention e b).Pairwise (fun x y => x.1 < y.1)
      ∧ ∀ r a, (r, a) ∈ trackerAttention e b ↔
          (e.row r).present = true
            ∧ (((b.row r).tracker = .held ∧ (b.row r).stranded = true ∧ a = .stranded)
              ∨ ((b.row r).tracker = .holdPending ∧ a = .hold) ∨ ((b.row r).tracker = .stowReleased ∧ a = .stow)
              ∨ ((b.row r).tracker = .unstowWanted ∧ a = .unstow)
              ∨ ((b.row r).tracker = .tracking ∧ (b.row r).resumeWanted = true ∧ a = .resume)))
    ∧ ∀ (f : Frame) (start : RowId) (s : State), Taken .fetchAttention f s →
        let set := (trackerAttention s.env s.blk).filter fun x => start ≤ x.1
        let listed := set.take 32
        ∃ t, exec (.fetchAttention f start) s = .next t
          ∧ t = { answered .fetchAttention f
                { code := .ok
                  payload := [BitVec.ofNat 8 listed.length, if 32 < set.length then 1 else 0]
                    ++ listed.flatMap fun x => [BitVec.ofNat 8 x.1.val, x.2.byte] } s with
              blk := { s.blk with rows := t.blk.rows } }
          ∧ ∀ r, t.blk.row r =
              if (r, Action.resume) ∈ listed then { s.blk.row r with resumeWanted := false } else s.blk.row r

/-- HOLD_CONFIRM (R24): a HOLD_PENDING row is granted to its holder, which goes on the surface with the order GO, and the
confirm entry gives way to the hold limit; the entered flag of its ACTIVE round entry is set (R108). In any other tracker
state the answer is TOO_LATE, and a TRACKING row takes a resume notice. A grant to a robot that holds a PARK task is followed,
in a storm, by the pass of the park plan (R168). -/
def Obligations.HoldConfirmGrants : Prop :=
  ∀ (f : Frame) (r : RowId) (s : State), Taken .holdConfirm f s → (s.env.row r).present = true →
    (∀ k, (s.blk.row r).tracker = .holdPending → (s.blk.row r).holder = some k →
        let entered := fun rd : Round =>
          { rd with
            entries := rd.entries.map fun x => if x.row = r ∧ x.state = .active then { x with entered := true } else x }
        let granted := (((s.blk.modRow r fun x => { x with tracker := .held, occupant := none }).modRobot k fun z =>
            { z with
              mode := if z.mode = .faulted then .faulted else .onRow
              location := .onRow r
              order := .go r
              stack := match z.round with | some rd => setRound (entered rd) z.stack | none => z.stack }).cancel
          (.holdConfirm k)).arm s.env (.holdLimit k) s.env.params.holdLimit
        let ends := fun c : Block =>
          exec (.holdConfirm f r) s = .next { answered .holdConfirm f { code := .ok } s with blk := c }
        (RobotTask.park ∉ (s.blk.robot k).stack → ends granted)
          ∧ (RobotTask.park ∈ (s.blk.robot k).stack → ∀ c, PassMade s.env none granted c → ends c))
    ∧ ((s.blk.row r).tracker ≠ .holdPending →
        exec (.holdConfirm f r) s = .next
          { answered .holdConfirm f { code := .tooLate } s with
            blk := s.blk.modRow r fun x => if x.tracker = .tracking then { x with resumeWanted := true } else x })

/-- STOW_DONE and UNSTOW_DONE (R33): a STOW_RELEASED row becomes STOWED, and in RECOVER at once UNSTOW_WANTED (R34); an
UNSTOW_WANTED row becomes HELD under its holder or TRACKING, and in a storm it is released again or its unbraced rider is
STRANDED (R175). In any other tracker state the answer is STATE. After UNSTOW_DONE the test of R177 is made, and where it
passes CALM is entered (R178). -/
def Obligations.StowAndUnstow : Prop :=
  ∀ (f : Frame) (r : RowId) (s : State), (s.env.row r).present = true →
    (Taken .stowDone f s →
      ((s.blk.row r).tracker = .stowReleased →
          exec (.stowDone f r) s = .next
            { answered .stowDone f { code := .ok } s with
              blk := s.blk.modRow r fun x =>
                { x with tracker := if s.blk.weather = .recover then .unstowWanted else .stowed } })
      ∧ ((s.blk.row r).tracker ≠ .stowReleased →
          exec (.stowDone f r) s = .next (answered .stowDone f { code := .state } s)))
    ∧ (Taken .unstowDone f s →
      ((s.blk.row r).tracker = .unstowWanted →
          let b := s.blk.modRow r fun x =>
            match x.holder with
            | none =>
              if s.blk.weather = .park ∨ s.blk.weather = .stow then
                { x with tracker := .stowReleased, resumeWanted := false }
              else { x with tracker := .tracking }
            | some k =>
              if s.blk.weather = .stow ∧ (s.blk.robot k).mode ≠ .braced then
                { x with tracker := .held, stranded := true, cls := 0 }
              else { x with tracker := .held }
          b.ThenTested s.env fun c =>
            exec (.unstowDone f r) s = .next { answered .unstowDone f { code := .ok } s with blk := c })
      ∧ ((s.blk.row r).tracker ≠ .unstowWanted →
          exec (.unstowDone f r) s = .next (answered .unstowDone f { code := .state } s)))

/-- ROW_FAULT (R30): a row with its holder on the surface keeps its hold and has the fault noted; a row with no holder becomes
FAULTED; a pending claim ends, its row becomes FAULTED and its robot is told ENTRY_FAILED. In every case the class becomes
0. The robot's ACTIVE entry for the row is SKIPPED (HOLD_TIMEOUT; R108), and the robot comes to rest with its top task given it
(R44), or is planned alone in a storm (R168). The test of R177 is made, which leads to CALM where it passes (R178). ROW_READY
(R31): a FAULTED row becomes TRACKING, or STOW_RELEASED in a storm, and a noted fault under a robot on the surface is cleared;
in both the class is set anew (R97). Otherwise the answer is STATE. A fault-noted flag left on a row that becomes FAULTED is
cleared with it (the model's choice, log entry 28). -/
def Obligations.RowFaultAndReady : Prop :=
  (∀ (f : Frame) (r : RowId) (s : State), Taken .rowFault f s → (s.env.row r).present = true →
     let ends := fun c : Block =>
       exec (.rowFault f r) s = .next { answered .rowFault f { code := .ok } s with blk := c }
     ((s.blk.row r).holder = none →
         (s.blk.modRow r fun x => { x with tracker := .faulted, resumeWanted := false, cls := 0 }).ThenTested s.env ends)
     ∧ (∀ k, (s.blk.row r).holder = some k → (s.blk.row r).tracker ≠ .holdPending →
         (s.blk.robot k).location = .onRow r →
           (s.blk.modRow r fun x => { x with faultNoted := true, cls := 0 }).ThenTested s.env ends)
     ∧ ∀ k c d, (s.blk.row r).holder = some k → (s.blk.row r).tracker = .holdPending →
         Skips s.env k r (fun x => x.state = .active) .holdTimeout
           (((s.blk.cancel (.holdConfirm k)).modRow r fun x =>
               { x with holder := none, tracker := .faulted, cls := 0 }).modRobot k fun z =>
             { z with mode := if z.mode = .waitHold then .idle else z.mode, outcome := .entryFailed }) c →
         RestsAlone s.env k c d → d.ThenTested s.env ends)
  ∧ (∀ (f : Frame) (r : RowId) (s : State), Taken .rowReady f s → (s.env.row r).present = true →
       let fresh := fun y : RowState => { y with cls := classTest s.env.params (s.env.row r) y }
       let ridden := ∃ k, (s.blk.row r).holder = some k ∧ (s.blk.robot k).location = .onRow r
       ((s.blk.row r).tracker = .faulted →
           exec (.rowReady f r) s = .next
             { answered .rowReady f { code := .ok } s with
               blk := s.blk.modRow r fun x =>
                 fresh { x with
                   tracker := if s.blk.weather = .park ∨ s.blk.weather = .stow then .stowReleased else .tracking
                   faultNoted := false } })
       ∧ ((s.blk.row r).tracker ≠ .faulted → (s.blk.row r).faultNoted = true → ridden →
           exec (.rowReady f r) s = .next
             { answered .rowReady f { code := .ok } s with
               blk := s.blk.modRow r fun x => fresh { x with faultNoted := false } })
       ∧ ((s.blk.row r).tracker ≠ .faulted → ((s.blk.row r).faultNoted = false ∨ ¬ ridden) →
           exec (.rowReady f r) s = .next (answered .rowReady f { code := .state } s)))

/-- ENTER_ROW: the checks of R22 in their order, with the prior holder in HELD_BY, and the claim of R23. -/
def Obligations.EnterRowClaims : Prop :=
  ∀ (f : Frame) (robot : Byte) (k : RobotId) (r : RowId) (s : State), Taken .enterRow f s → robot.toNat = k.val →
    (s.env.row r).present = true →
    let x := s.blk.row r
    let answer := fun a : Answer => exec (.enterRow f robot r) s = .next (answered .enterRow f a s)
    let barred := x.locked ≠ none ∨ x.tracker = .faulted ∨ x.tracker = .stowReleased ∨ x.tracker = .stowed
      ∨ x.tracker = .unstowWanted
    let atEnd := (s.blk.robot k).mode = .idle ∧ (s.blk.robot k).location = .rowEnd r
    (s.blk.weather ≠ .calm → answer { code := .weather })
    ∧ (s.blk.weather = .calm → barred → answer { code := .state })
    ∧ (∀ j, s.blk.weather = .calm → ¬ barred → x.holder = some j →
        answer { code := .heldBy, payload := [BitVec.ofNat 8 j.val] })
    ∧ (s.blk.weather = .calm → ¬ barred → x.holder = none → ¬ atEnd → answer { code := .state })
    ∧ (∀ j, s.blk.weather = .calm → ¬ barred → x.holder = none → atEnd → x.reservedBy = some j → j ≠ k →
        answer { code := .reserved })
    ∧ (s.blk.weather = .calm → ¬ barred → x.holder = none → atEnd → (x.reservedBy = none ∨ x.reservedBy = some k) →
        exec (.enterRow f robot r) s = .next
          { answered .enterRow f { code := .accepted } s with
            blk := ((s.blk.modRow r fun y =>
                { y with holder := some k, tracker := .holdPending, resumeWanted := false }).modRobot k fun z =>
              { z with mode := .waitHold }).arm s.env (.holdConfirm k) s.env.params.confirmTimeout })

/-- EXIT_ROW (R29): the robot stands IDLE at the end as its occupant, the hold and its marks and limit end, the row takes the
state of the table of R29, the return state of R26 where it was HELD, and a row that was STRANDED has its class set anew (R97).
An ACTIVE entry of the robot's round for the row that was entered is SKIPPED (ABORTED; R109). Then the robot comes to rest: a
deferred charge is tested (R56), and its top task is given it (R44), a round starting its next entry (R104); a robot with
nothing to be given is left as it is. In a storm the pass of the park plan follows (R168), and otherwise the test of R177 (the
model's reading, log entry 19), with CALM entry where it passes (R178). A robot that is not on a surface is answered STATE. -/
def Obligations.ExitRowEndsTheHold : Prop :=
  ∀ (f : Frame) (robot : Byte) (k : RobotId) (s : State), Taken .exitRow f s → robot.toNat = k.val →
    (((s.blk.robot k).mode ≠ .onRow ∨ ∀ r, (s.blk.robot k).location ≠ .onRow r) →
        exec (.exitRow f robot) s = .next (answered .exitRow f { code := .state } s))
    ∧ ∀ r, (s.blk.robot k).mode = .onRow → (s.blk.robot k).location = .onRow r →
        let storm := s.blk.weather = .park ∨ s.blk.weather = .stow
        let x : RowState := { s.blk.row r with holder := none, occupant := some k, overstay := false, stranded := false }
        let y : RowState :=
          if x.faultNoted = true then
            { x with tracker := .faulted, faultNoted := false, resumeWanted := false, cls := 0 }
          else if x.tracker = .held ∧ storm then { x with tracker := .stowReleased, resumeWanted := false }
          else if x.tracker = .held ∨ (x.tracker = .stowReleased ∧ s.blk.weather = .recover) then
            { x with tracker := .tracking, resumeWanted := true }
          else x
        let z := if (s.blk.row r).stranded = true then
            { y with cls := if (s.env.row r).present then classTest s.env.params (s.env.row r) y else 0 } else y
        let ends := fun c : Block => exec (.exitRow f robot) s = .next { answered .exitRow f { code := .ok } s with blk := c }
        let own := ((s.blk.cancel (.holdLimit k)).modRow r fun _ => z).modRobot k fun w =>
          { w with mode := .idle, location := .rowEnd r, order := if w.order = .exit then .none else w.order }
        (s.blk.RestsIdle k → ¬ storm → own.ThenTested s.env ends)
        ∧ ∀ c d, Skips s.env k r (fun x => x.state = .active ∧ x.entered = true) .aborted own c → ComesToRest s.env none k c d →
            (¬ storm → d.ThenTested s.env ends) ∧ (storm → ∀ g, PassMade s.env none d g → ends g)

/-- The expiries of holds. HOLD_CONFIRM_EXPIRY (R25): the pending claim ends, the row takes its return state (R26), the robot
returns to IDLE with the outcome ENTRY_FAILED, its ACTIVE entry for the row is SKIPPED (HOLD_TIMEOUT; R108), and it comes to
rest with its top task given it (R44), or is planned alone in a storm (R168). HOLD_LIMIT_EXPIRY (R28): OVERSTAY is set, and a
robot ON_ROW is ordered to exit. In both the entry leaves the list (R18); where it is not due nothing happens (the model's
choice, log entry 2). -/
def Obligations.HoldExpiries : Prop :=
  ∀ (k : RobotId) (s : State), s.inReset = false →
    (s.blk.expires s.env (.holdConfirm k) = false → exec (.holdConfirmExpiry k) s = .next s)
    ∧ (s.blk.expires s.env (.holdLimit k) = false → exec (.holdLimitExpiry k) s = .next s)
    ∧ ∀ r, (s.blk.row r).holder = some k → (∀ r', (s.blk.row r').holder = some k → r' = r) →
        (s.blk.expires s.env (.holdConfirm k) = true → (s.blk.row r).tracker = .holdPending →
            let own := ((s.blk.cancel (.holdConfirm k)).modRow r fun x =>
                { x with holder := none }.returned s.blk.weather).modRobot k fun z =>
              { z with mode := if z.mode = .waitHold then .idle else z.mode, outcome := .entryFailed }
            let ends := fun c : Block => exec (.holdConfirmExpiry k) s = .next { s with blk := c }
            (s.blk.RestsIdle k → ends own)
            ∧ ∀ c d, Skips s.env k r (fun x => x.state = .active) .holdTimeout own c → RestsAlone s.env k c d → ends d)
        ∧ (s.blk.expires s.env (.holdLimit k) = true →
            exec (.holdLimitExpiry k) s = .next
              { s with
                blk := ((s.blk.cancel (.holdLimit k)).modRow r fun x => { x with overstay := true }).modRobot k fun z =>
                  { z with order := if z.mode = .onRow then .exit else z.order } })

/-! ## Robots and task stacks (chapter 3) -/

/-- ENROLL: the checks of R50 in their order. An accepted ENROLL places an ABSENT robot, or one whose location is UNKNOWN, IDLE
at the row's end as its occupant, and brings it to rest with its top task given it (R44). In a storm an ABSENT robot takes a PARK
task, and is planned alone (R168): at a cradle it is found SAFE (R169, R171). WITHDRAW (R51): a robot that is not IDLE or has a
task is answered STATE; otherwise its end is freed, and its record takes the power-on values. -/
def Obligations.EnrollAndWithdraw : Prop :=
  (∀ (f : Frame) (robot : Byte) (k : RobotId) (r : RowId) (s : State), Taken .enroll f s → robot.toNat = k.val →
     (s.env.row r).present = true →
     let x := s.blk.row r
     let z := s.blk.robot k
     let answer := fun c : Code => exec (.enroll f robot r) s = .next (answered .enroll f { code := c } s)
     let placeable := z.mode = .absent ∨ z.location = .unknown
     let free := x.occupant = none ∧ x.reservation = none ∧ x.holder = none
     (¬ placeable → answer .state)
     ∧ (placeable → x.locked ≠ none → answer .state)
     ∧ (placeable → x.locked = none → ¬ free → answer .endBusy)
     ∧ (∀ j, placeable → x.locked = none → free → x.reservedBy = some j → j ≠ k → answer .reserved)
     ∧ (∀ c, placeable → x.locked = none → free → (x.reservedBy = none ∨ x.reservedBy = some k) →
         RestsAlone s.env k
           ((s.blk.modRow r fun y => { y with occupant := some k }).modRobot k fun w =>
             { w with
               mode := .idle, location := .rowEnd r
               stack := if w.mode = .absent ∧ s.blk.storm = true then .park :: w.stack else w.stack
               order := if w.mode ≠ .absent ∧ w.order = .attend then .none else w.order }) c →
           exec (.enroll f robot r) s = .next { answered .enroll f { code := .ok } s with blk := c })
     ∧ (z.mode = .absent → x.locked = none → free → (x.reservedBy = none ∨ x.reservedBy = some k) → s.blk.RestsIdle k →
         s.blk.storm = true → (s.env.row r).cradle = true → z.order ≠ .brace → z.standing ≠ .safe →
           exec (.enroll f robot r) s = .next
             { answered .enroll f { code := .ok } s with
               blk := (s.blk.modRow r fun y => { y with occupant := some k }).modRobot k fun w =>
                 { w with
                   mode := .idle, location := .rowEnd r, stack := [.park], standing := .safe, outcome := .parked
                   parkWait := false } }))
  ∧ (∀ (f : Frame) (robot : Byte) (k : RobotId) (s : State), Taken .withdraw f s → robot.toNat = k.val →
       (((s.blk.robot k).mode ≠ .idle ∨ (s.blk.robot k).stack ≠ []) →
           exec (.withdraw f robot) s = .next (answered .withdraw f { code := .state } s))
       ∧ ((s.blk.robot k).mode = .idle → (s.blk.robot k).stack = [] →
           ∃ t, exec (.withdraw f robot) s = .next t
             ∧ t = { answered .withdraw f { code := .ok } s with
                 blk := { s.blk with rows := t.blk.rows, robots := t.blk.robots } }
             ∧ t.blk.robot k = {
                 mode := .absent, location := .nowhere, inGarage := false, battery := 0, order := .none, outcome := .none,
                 transfer := none, stack := [], parkWait := false, chargeWait := false, chargeDeferred := false,
                 faultPending := false, standing := .none }
             ∧ (∀ j, j ≠ k → t.blk.robot j = s.blk.robot j)
             ∧ ∀ r, t.blk.row r =
                 if (s.blk.robot k).location = .rowEnd r then { s.blk.row r with occupant := none } else s.blk.row r))

/-- ROBOT_STATUS (R52): the battery, the acknowledged GO, then the fault flag (R53, R55), then the charge tests (R56, R58). A new
fault discards the robot's round, its open entries' rows released (R54), and removes its QUEUED transfer, the destination's
reservation released (R77; said where the shuttle takes no work now). A low battery gives an IDLE robot at a row end a CHARGE
task, and its plan at once (R57): it charges at a cradle, or is taken to the nearest open cradle of its shuttle's range (said
where the shuttle takes no work now), or waits; elsewhere the push is deferred. At the resume level a CHARGE task at a cradle is
popped, and the task beneath it, a round for one, is given the robot (R59). An ABSENT robot is answered STATE. A FAULTED robot
that recovers comes to rest, its top task given it (R44), and then, with a low battery, takes or defers a CHARGE task, or is
planned alone in a storm (R168); said where every parameter lies in its range. -/
def Obligations.RobotStatusReports : Prop :=
  ∀ (f : Frame) (robot battery : Byte) (fault : Bool) (ack : Option RowId) (k : RobotId) (s : State),
    Taken .robotStatus f s → robot.toNat = k.val →
    let z := s.blk.robot k
    let level := min 100 battery.toNat
    let order := match ack with
      | some r => if z.order = .go r then Order.none else z.order
      | none => z.order
    let told := { z with battery := level, order := order }
    let low := level < s.env.params.chargeFloor ∧ (s.blk.weather = .calm ∨ s.blk.weather = .watch)
      ∧ RobotTask.charge ∉ z.stack
    let charged := fun p : RowId => (s.env.row p).cradle = true ∧ s.env.params.resumeLevel ≤ level
    let pops := z.stack.head? = some .charge ∧ z.mode = .idle ∧ ∃ p, z.location = .rowEnd p ∧ charged p
    let ends := fun b : Block => exec (.robotStatus f robot battery fault ack) s = .next
      { answered .robotStatus f { code := .ok } s with blk := b }
    let put := fun w : Robot => ends (s.blk.modRobot k fun _ => w)
    let queuedIn := fun (u : ShuttleId) (t : Transfer) => t ∈ (s.blk.shuttle u).queue ∧ t.step = .queued
    (z.mode = .absent →
        exec (.robotStatus f robot battery fault ack) s = .next (answered .robotStatus f { code := .state } s))
    ∧ (z.mode ≠ .absent → ¬ low → ¬ pops →
        (fault = false → z.mode ≠ .faulted → put { told with faultPending := z.faultPending && z.mode != .braced })
        ∧ (fault = true → z.mode = .faulted → put told)
        ∧ (fault = true → z.mode = .braced → put { told with faultPending := true }))
    ∧ (fault = false → z.mode = .faulted →
        let waits := ∃ r, (s.blk.row r).holder = some k ∧ (s.blk.row r).tracker = .holdPending
        let recovered := s.blk.modRobot k fun _ =>
          { told with
            mode := match z.location with
              | .onRow _ => .onRow
              | .carried _ => if waits then .waitHold else .carried
              | _ => if waits then .waitHold else if z.transfer.isSome then .waitTransfer else .idle }
        (s.blk.RestsIdle k → ¬ low → ends recovered)
        ∧ ∀ c, s.env.params.InRange → ComesToRest s.env none k recovered c →
            let y := c.robot k
            let push := level < s.env.params.chargeFloor ∧ (s.blk.weather = .calm ∨ s.blk.weather = .watch)
              ∧ RobotTask.charge ∉ y.stack
            let atEnd := ∃ p, y.IdleAt p
            let defers := y.mode = .waitHold ∨ y.mode = .onRow ∨ y.mode = .waitTransfer ∨ y.mode = .carried
              ∨ (y.mode = .idle ∧ y.location = .unknown)
            (¬ push → ¬ (y.stack.head? = some .park ∧ atEnd) → ends c)
            ∧ (∀ d, ¬ push → y.stack.head? = some .park → atEnd → Planned s.env none k c d → ends d)
            ∧ (∀ p d, push → y.IdleAt p →
                ChargePlanned s.env none k p (c.modRobot k fun w => { w with stack := .charge :: w.stack }) d → ends d)
            ∧ (push → ¬ atEnd →
                ends (c.modRobot k fun w => { w with chargeDeferred := if defers then true else w.chargeDeferred })))
    ∧ (fault = true → z.mode ≠ .absent → z.mode ≠ .faulted → z.mode ≠ .braced →
        let opened := fun r => ∃ rd, z.round = some rd ∧ ∃ x ∈ rd.entries, x.row = r ∧ x.Open
        let down := { told with
          mode := .faulted, chargeDeferred := false, chargeWait := false
          stack := z.stack.filter fun t => !t.isRound
          outcome := if z.round.isSome then .roundDiscarded else z.outcome }
        ((∀ u t, queuedIn u t → z.transfer ≠ some t.tag) →
          ∃ b, ends b ∧ b = { s.blk.modRobot k (fun _ => down) with rows := b.rows }
            ∧ ∀ r, b.row r = { s.blk.row r with reservedBy := if opened r then none else (s.blk.row r).reservedBy })
        ∧ ∀ u t before after, (s.blk.shuttle u).queue = before ++ t :: after → t.step = .queued → t.robot = k →
            z.transfer = some t.tag → (∀ y ∈ before ++ after, y.tag ≠ t.tag) →
            (∀ v, v ≠ u → t.tag ∉ (s.blk.shuttle v).queue.map Transfer.tag) → (s.blk.shuttle u).current ≠ some t.tag →
            s.blk.Occupied u →
              ∃ b, ends b
                ∧ b = { (s.blk.modRobot k fun _ => { down with transfer := none }).modShuttle u fun y =>
                    { y with queue := before ++ after } with rows := b.rows }
                ∧ ∀ r, b.row r = { s.blk.row r with
                    reservedBy := if opened r then none else (s.blk.row r).reservedBy
                    reservation :=
                      if t.dest = .rowEnd r ∧ (s.blk.row r).reservation = some t.tag then none
                      else (s.blk.row r).reservation })
    ∧ (fault = false → low →
        ((z.mode = .waitHold ∨ z.mode = .onRow ∨ z.mode = .waitTransfer ∨ z.mode = .carried
            ∨ (z.mode = .idle ∧ z.location = .unknown)) →
          put { told with chargeDeferred := true })
        ∧ ∀ p, z.mode = .idle → z.location = .rowEnd p → level < s.env.params.resumeLevel →
            let pushed := { told with stack := .charge :: z.stack }
            let via := (s.env.row p).shuttle
            let cradle := (s.env.row p).cradle = true
            (cradle → put { pushed with chargeWait := false })
            ∧ (¬ cradle → (∀ u c, via = some u → ¬ s.blk.CradleFor s.env u c) → put { pushed with chargeWait := true })
            ∧ ∀ u c, ¬ cradle → via = some u → s.blk.NearestCradle s.env u p c →
                (((s.blk.shuttle u).mode = .faulted ∨ 8 ≤ (s.blk.shuttle u).queue.length ∨ z.transfer ≠ none) →
                  put { pushed with chargeWait := true })
                ∧ ∀ tag, (s.blk.shuttle u).mode ≠ .faulted → (s.blk.shuttle u).queue.length < 8 → z.transfer = none →
                    s.blk.LowestFree tag → s.blk.Occupied u →
                      ends (((s.blk.modRobot k fun _ =>
                            { pushed with
                              chargeWait := false, mode := .waitTransfer, transfer := some tag
                              order := if order = .attend then .none else order }).modRow c fun x =>
                          { x with reservation := some tag }).modShuttle u fun y =>
                        { y with
                          queue := y.queue ++
                            [{ tag := tag, robot := k, source := .rowEnd p, dest := .rowEnd c, origin := .charge
                               step := .queued }] }))
    ∧ ∀ p below, fault = false → z.mode = .idle → z.location = .rowEnd p → charged p → z.stack = .charge :: below →
        let popped := { told with stack := below }
        (below = [] → put popped)
        ∧ ∀ c, RobotTask.charge ∉ below → GivesTop s.env none k (s.blk.modRobot k fun _ => popped) c →
            (c.robot k).stack.head? ≠ some .park → ends c

/-- FETCH_ORDERS (R47, R48): the reply lists every robot of the fleet attention set in ascending order, with its order, outcome
and location; their outcomes are cleared, and the set that is left is the robots whose order stands. -/
def Obligations.FetchOrdersLists : Prop :=
  ∀ (f : Frame) (s : State), Taken .fetchOrders f s →
    let wanted := fun x : Robot => x.mode ≠ .absent ∧ (x.order ≠ .none ∨ x.outcome ≠ .none)
    ∃ t, ∃ listed : List RobotId,
      listed.Pairwise (· < ·) ∧ (∀ k, k ∈ listed ↔ wanted (s.blk.robot k))
      ∧ exec (.fetchOrders f) s = .next t
      ∧ t = { answered .fetchOrders f
            { code := .ok
              payload := BitVec.ofNat 8 listed.length
                :: listed.flatMap fun k =>
                  BitVec.ofNat 8 k.val :: ((s.blk.robot k).order.bytes ++ (s.blk.robot k).outcome.bytes
                    ++ (s.blk.robot k).location.bytes) } s with
          blk := { s.blk with robots := t.blk.robots } }
      ∧ (∀ k, t.blk.robot k =
          if k ∈ listed then { s.blk.robot k with outcome := .none } else s.blk.robot k)
      ∧ ∀ k, wanted (t.blk.robot k) ↔ (s.blk.robot k).mode ≠ .absent ∧ (s.blk.robot k).order ≠ .none

/-- FLEET_RESET (R60, R61), in every state: robots, rounds, transfers and the deadlines of robots and shuttles are dropped,
the shuttles that have a range are made LOCAL, every present row loses its claims, and a row that had a holder or an occupant
is LOCKED (FLEET_RESET). In RECOVER the test of R177 follows; with no robot enrolled it changes only the weather state. The
discard mark is set on a transaction in flight of a shuttle made LOCAL (R86). A row that is not locked keeps its class (R60), but
for one that the end of its hold leaves FAULTED. -/
def Obligations.FleetResetDropsTheFleet : Prop :=
  ∀ (f : Frame) (s : State), Taken .fleetReset f s →
    let w := s.blk.weather
    let claimed := fun r => (s.blk.row r).holder ≠ none ∨ (s.blk.row r).occupant ≠ none
    ∃ t, ∃ locks : Nat, exec (.fleetReset f) s = .next t
      ∧ locks = (allRows.filter fun r => (s.env.row r).present = true ∧ claimed r).length
      ∧ t = { answered .fleetReset f { code := .ok, payload := bytesOf 2 locks } s with
          blk := { s.blk with
            rows := t.blk.rows, robots := t.blk.robots, shuttles := t.blk.shuttles, link := t.blk.link
            deadlines := t.blk.deadlines, weather := t.blk.weather, weatherChanged := t.blk.weatherChanged } }
      ∧ (∀ k, t.blk.robot k = Robot.fresh)
      ∧ (∀ u, t.blk.shuttle u =
          { s.blk.shuttle u with
            queue := [], current := none, load := none
            mode := if (s.blk.shuttle u).range.isSome then .localUnknown else (s.blk.shuttle u).mode
            cause := if (s.blk.shuttle u).range.isSome then none else (s.blk.shuttle u).cause
            position := if (s.blk.shuttle u).range.isSome then none else (s.blk.shuttle u).position
            pollDue := if (s.blk.shuttle u).range.isSome then none else (s.blk.shuttle u).pollDue
            commandSent := if (s.blk.shuttle u).range.isSome then false else (s.blk.shuttle u).commandSent })
      ∧ (∀ u : ShuttleId, t.blk.link.queue[u] =
          if s.blk.link.enabled = true ∧ (s.blk.shuttle u).range.isSome = true then
            some { op := .status, counts := false } else none)
      ∧ (t.blk.link.enabled = s.blk.link.enabled ∧ t.blk.link.lastServed = s.blk.link.lastServed
          ∧ t.blk.link.inFlight = s.blk.link.inFlight.map fun x =>
            if (s.blk.shuttle x.shuttle).range.isSome then { x with discard := true } else x)
      ∧ t.blk.deadlines = (s.blk.deadlines.filter fun d => d.kind == .parkDeadline || d.kind == .calmHoldoff)
      ∧ (∀ r, (s.env.row r).present = false → t.blk.row r = s.blk.row r)
      ∧ (∀ r, (s.env.row r).present = true →
          let x := s.blk.row r
          let y := t.blk.row r
          y.holder = none ∧ y.occupant = none ∧ y.reservation = none ∧ y.reservedBy = none
            ∧ y.restart = x.restart
            ∧ (y.overstay = true ↔ x.overstay = true ∧ x.holder = none)
            ∧ (y.stranded = true ↔ x.stranded = true ∧ x.holder = none)
            ∧ (claimed r → y.locked = some .fleetReset ∧ y.cls = 0)
            ∧ (¬ claimed r →
                y.locked = x.locked ∧ y.cls = if x.tracker ≠ .faulted ∧ y.tracker = .faulted then 0 else x.cls)
            ∧ (x.tracker = .tracking ∨ x.tracker = .held ∨ x.tracker = .faulted →
                y.tracker = x.tracker ∧ y.faultNoted = x.faultNoted ∧ y.resumeWanted = x.resumeWanted)
            ∧ (x.tracker = .holdPending → x.faultNoted = false →
                if w = .park ∨ w = .stow then y.tracker = .stowReleased
                else y.tracker = .tracking ∧ y.resumeWanted = true)
            ∧ (x.tracker = .stowReleased ∨ x.tracker = .stowed ∨ x.tracker = .unstowWanted →
                (x.faultNoted = true → y.tracker = .faulted ∧ y.faultNoted = false ∧ y.cls = 0)
                ∧ (x.faultNoted = false → x.tracker = .stowReleased → w = .recover →
                    y.tracker = .tracking ∧ y.resumeWanted = true)
                ∧ (x.faultNoted = false → (x.tracker ≠ .stowReleased ∨ w ≠ .recover) → y.tracker = x.tracker)))
      ∧ (let left := w = .recover ∧ s.blk.level = .none
            ∧ ∀ r, (s.env.row r).present = true → (t.blk.row r).tracker ≠ .stowed ∧ (t.blk.row r).tracker ≠ .unstowWanted
        (left → t.blk.weather = .calm ∧ t.blk.weatherChanged = true)
          ∧ (¬ left → t.blk.weather = w ∧ t.blk.weatherChanged = s.blk.weatherChanged))

/-! ## Dust rounds (chapter 6) -/

/-- The search (R100, R102, R103): it takes candidates of the search range only, at most the round length, no row twice, a higher
class before a lower one and within a class in search order, which is the order of the sweep key; a candidate is passed over
only when the round is full of rows that come before it so; and the sweep has the rows taken in the order of their sweep key. -/
def Obligations.SearchTakesCandidates : Prop :=
  ∀ (e : Env) (b : Block) (p : RowId) (len : Nat),
    let lo := (searchRange e b p).1
    let hi := (searchRange e b p).2
    let taken := searchRows e b p len
    let candidate := fun r : RowId =>
      lo ≤ r.val ∧ r.val ≤ hi ∧ (e.row r).present = true ∧ (b.row r).cls ≠ 0 ∧ (b.row r).holder = none
        ∧ (b.row r).reservedBy = none ∧ (b.row r).tracker = .tracking ∧ (b.row r).locked = none
        ∧ (((b.row r).occupant = none ∧ (b.row r).reservation = none) ∨ r = p)
    let key := fun r : RowId => (r.val + (hi - lo + 1) - p.val) % (hi - lo + 1)
    let before := fun x y : RowId => (b.row y).cls < (b.row x).cls ∨ ((b.row y).cls = (b.row x).cls ∧ key x < key y)
    lo ≤ p.val → p.val ≤ hi →
      (∀ r ∈ taken, candidate r)
      ∧ taken.length ≤ len ∧ taken.Nodup
      ∧ taken.Pairwise before
      ∧ (∀ r, candidate r → r ∉ taken → taken.length = len ∧ ∀ x ∈ taken, before x r)
      ∧ (sweepRows e b p len).Perm taken
      ∧ (sweepRows e b p len).Pairwise fun x y => key x < key y

/-- REQUEST_WORK: the checks of R101 in their order and NO_WORK (R102); and the round of R103 with every row reserved, its first
entry started (R104) by the claim of R23 where it is the robot's own row (R105), and by a transfer of origin ROUND where it is
another (R106; said where the shuttle takes no work now), and the reply with the round as it then stands. What a round does that
is handed its robot (R104): an entry left without a cleaning is SKIPPED (ABORTED); outside CALM the round is paused (R110); the
entry that stands ACTIVE, or the first PENDING one, is started by the claim or by the transfer; or it is SKIPPED, for an
ineligible row and by the code of a refused transfer (R106), which completes the round where no other is open (R114). That the
bits which no rule names are 0 in the reply's round is the model's choice (log entry 9). -/
def Obligations.RequestWorkStartsARound : Prop :=
  (∀ (f : Frame) (robot : Byte) (k : RobotId) (s : State), Taken .requestWork f s → robot.toNat = k.val →
    let z := s.blk.robot k
    let answer := fun c : Code => exec (.requestWork f robot) s = .next (answered .requestWork f { code := c } s)
    (s.blk.weather ≠ .calm → answer .weather)
    ∧ (s.blk.weather = .calm → (z.mode ≠ .idle ∨ (∀ p, z.location ≠ .rowEnd p) ∨ z.stack ≠ []) → answer .state)
    ∧ ∀ p, s.blk.weather = .calm → z.mode = .idle → z.location = .rowEnd p → z.stack = [] →
        (z.battery < s.env.params.chargeFloor → answer .battery)
        ∧ (s.env.params.chargeFloor ≤ z.battery → sweepRows s.env s.blk p s.env.params.roundLength = [] → answer .noWork)
        ∧ ∀ d rest, s.env.params.chargeFloor ≤ z.battery → sweepRows s.env s.blk p s.env.params.roundLength = d :: rest →
            (s.blk.row d).MarksAgree →
            let entry := fun (st : EntryState) (r : RowId) =>
              ({ row := r, state := st, entered := false, reason := none } : Entry)
            let rd : Round := { start := p, paused := false, entries := entry .active d :: rest.map (entry .pending) }
            let reply := answered .requestWork f { code := .ok, payload := rd.bytes } s
            (d = p →
              ∃ t, exec (.requestWork f robot) s = .next t
                ∧ t = { reply with
                    blk := { s.blk with
                      rows := t.blk.rows, robots := t.blk.robots
                      deadlines := (s.blk.arm s.env (.holdConfirm k) s.env.params.confirmTimeout).deadlines } }
                ∧ t.blk.robot k = { z with mode := .waitHold, stack := [.round rd] }
                ∧ (∀ j, j ≠ k → t.blk.robot j = s.blk.robot j)
                ∧ t.blk.row p = { s.blk.row p with
                    holder := some k, tracker := .holdPending, resumeWanted := false, reservedBy := some k }
                ∧ ∀ r, r ≠ p → t.blk.row r =
                    { s.blk.row r with reservedBy := if r ∈ rest then some k else (s.blk.row r).reservedBy })
            ∧ ∀ u tag, d ≠ p → (s.env.row p).shuttle = some u → (s.env.row d).shuttle = some u → z.transfer = none →
                (s.blk.shuttle u).mode ≠ .faulted → (s.blk.shuttle u).queue.length < 8 → s.blk.LowestFree tag →
                s.blk.Occupied u →
                ∃ t, exec (.requestWork f robot) s = .next t
                  ∧ t = { reply with
                      blk := { s.blk.modShuttle u fun y =>
                          { y with
                            queue := y.queue ++
                              [{ tag := tag, robot := k, source := .rowEnd p, dest := .rowEnd d, origin := .round
                                 step := .queued }] } with
                        rows := t.blk.rows, robots := t.blk.robots } }
                  ∧ t.blk.robot k = { z with
                      mode := .waitTransfer, transfer := some tag, stack := [.round rd]
                      order := if z.order = .attend then .none else z.order }
                  ∧ (∀ j, j ≠ k → t.blk.robot j = s.blk.robot j)
                  ∧ ∀ r, t.blk.row r =
                      { s.blk.row r with
                        reservedBy := if r = d ∨ r ∈ rest then some k else (s.blk.row r).reservedBy
                        reservation := if r = d then some tag else (s.blk.row r).reservation })
  ∧ ∀ (e : Env) (b : Block) (k : RobotId) (p : RowId) (rd : Round) (below : List RobotTask),
      (b.robot k).mode = .idle → (b.robot k).location = .rowEnd p → (b.robot k).stack = .round rd :: below →
      (∀ t ∈ below, t.isRound = false) →
      let left := fun x : Entry => x.state = .active ∧ x.entered = true
      let stacked := fun (rd' : Round) (c : Block) => c.modRobot k fun z => { z with stack := .round rd' :: below }
      (b.weather ≠ .calm → (∃ x ∈ rd.entries, x.Open ∧ ¬ left x) →
        let rd' : Round :=
          { rd with
            paused := true
            entries := rd.entries.map fun x =>
              if left x then { x with state := .skipped, entered := false, reason := some .aborted } else x }
        ∃ c, handToRound e k b = (some rd', stacked rd' c, []) ∧ c = { b with rows := c.rows }
          ∧ ∀ r, c.row r =
              { b.row r with
                reservedBy := if ∃ x ∈ rd.entries, x.row = r ∧ left x then none else (b.row r).reservedBy })
      ∧ ∀ before x after, b.weather = .calm → rd.entries = before ++ x :: after → (∀ y ∈ before ++ after, y.row ≠ x.row) →
          (∀ y ∈ rd.entries, ¬ left y) →
          ((x.state = .active ∧ ∀ y ∈ before, y.state ≠ .active)
            ∨ (x.state = .pending ∧ (∀ y ∈ before, ¬ y.Open) ∧ ∀ y ∈ after, y.state ≠ .active)) →
          let r := x.row
          let with' := fun y : Entry => { rd with paused := false, entries := before ++ y :: after }
          let started := with' { x with state := .active, entered := false }
          let skipped := fun why : SkipReason =>
            (∀ y ∈ before ++ after, ¬ y.Open) →
              handToRound e k b =
                (some (with' { x with state := .skipped, entered := false, reason := some why }),
                  (b.modRow r fun y => { y with reservedBy := none }).modRobot k fun z =>
                    { z with stack := below, outcome := .roundDone },
                  [.giveTop k])
          let y := b.row r
          let ineligible := y.locked ≠ none ∨ y.stranded = true ∨ y.faultNoted = true ∨ y.tracker ≠ .tracking
          (ineligible → skipped .ineligible)
          ∧ (¬ ineligible → r = p → y.holder = none → (y.reservedBy = none ∨ y.reservedBy = some k) →
              handToRound e k b =
                (some started,
                  stacked started
                    (((b.modRow r fun w =>
                        { w with holder := some k, tracker := .holdPending, resumeWanted := false }).modRobot k fun z =>
                      { z with mode := .waitHold }).arm e (.holdConfirm k) e.params.confirmTimeout), []))
          ∧ (∀ c u tag, ¬ ineligible → r ≠ p → askTransfer e b .round k (.rowEnd r) = .ok (c, u, tag) →
              handToRound e k b = (some started, stacked started c, [.offer u]))
          ∧ ∀ code, ¬ ineligible → r ≠ p → askTransfer e b .round k (.rowEnd r) = .error code →
              skipped (if code = .endBusy ∨ code = .noRoute then .endBusy else if code = .full then .queueFull
                else .ineligible)

/-- CLEAN_DONE (R111) and CLEAN_ABORT (R113) of a robot on a surface: CLEAN_DONE sets f_pre, Ss, the row's accumulators, the credit
and last cleaned, and class 0; in both the open entry of the row in the robot's round is settled, the row's reservation released
(R99), and a round with no open entry left is ROUND_DONE (R114). Any other robot is answered STATE. A failed transfer of origin
ROUND settles the ACTIVE entry of its destination (R107): for STORM it returns to PENDING with its reservation, and otherwise it is
SKIPPED, as INELIGIBLE for DEST_LOCKED and as END_BUSY for the other reasons, and its reservation is released. So does a step
timeout (R75, R76) that leaves the robot CARRIED, whose round then waits. -/
def Obligations.CleaningResults : Prop :=
  (∀ (f : Frame) (robot : Byte) (k : RobotId) (s : State), robot.toNat = k.val →
    let z := s.blk.robot k
    let openAt := fun (r : RowId) (x : Entry) => x.row = r ∧ (x.state = .pending ∨ x.state = .active)
    let settled := fun (r : RowId) (st : EntryState) (why : Option SkipReason) (b : Block) =>
      match z.round with
      | none => b
      | some rd =>
        if ∃ x ∈ rd.entries, openAt r x then
          let rd' := { rd with
            entries := rd.entries.map fun x =>
              if openAt r x then { x with state := st, entered := false, reason := why } else x }
          let complete := ∀ x ∈ rd'.entries, x.state ≠ .pending ∧ x.state ≠ .active
          (b.modRow r fun y => { y with reservedBy := none }).modRobot k fun w =>
            { w with
              stack := if complete then w.stack.filter (fun t => !t.isRound) else setRound rd' w.stack
              outcome := if complete then .roundDone else w.outcome }
        else b
    (Taken .cleanDone f s → (z.mode ≠ .onRow ∨ ∀ r, z.location ≠ .onRow r) →
        exec (.cleanDone f robot) s = .next (answered .cleanDone f { code := .state } s))
    ∧ (Taken .cleanAbort f s → (z.mode ≠ .onRow ∨ ∀ r, z.location ≠ .onRow r) →
        exec (.cleanAbort f robot) s = .next (answered .cleanAbort f { code := .state } s))
    ∧ ∀ r, z.mode = .onRow → z.location = .onRow r →
        (Taken .cleanDone f s →
          exec (.cleanDone f robot) s = .next
            { answered .cleanDone f { code := .ok } s with
              env := s.env.modRow r fun d =>
                { d with
                  fPre := d.f, ss := 0, loss := 0, recovered := 0, saturated := false
                  credit := s.env.params.creditWindow, lastCleaned := some s.env.now }
              blk := settled r .done none (s.blk.modRow r fun y => { y with cls := 0 }) })
        ∧ (Taken .cleanAbort f s →
          exec (.cleanAbort f robot) s = .next
            { answered .cleanAbort f { code := .ok } s with
              blk := settled r .skipped (some .aborted) s.blk }))
  ∧ (∀ (b : Block) (k : RobotId) (d : RowId) (rd : Round), (b.robot k).round = some rd →
      let x := b.robot k
      let at' := fun y : Entry => y.row = d ∧ y.state = .active
      let settle := fun (st : EntryState) (why : Option SkipReason) =>
        { rd with
          entries := rd.entries.map fun y =>
            if at' y then { y with state := st, entered := false, reason := why } else y }
      let keeps := fun rd' : Round => b.modRobot k fun z => { z with stack := setRound rd' z.stack }
      b.settleFailed k (.rowEnd d) .storm = (keeps (settle .pending none), [])
      ∧ ((∀ y ∈ rd.entries, ¬ at' y) → ∀ why, why ≠ .storm → b.settleFailed k (.rowEnd d) why = (b, []))
      ∧ ∀ why, why ≠ .storm → (∃ y ∈ rd.entries, at' y) →
          let rd' := settle .skipped (some (if why = .destLocked then .ineligible else .endBusy))
          let c := (keeps rd').modRow d fun y => { y with reservedBy := none }
          ((∃ y ∈ rd'.entries, y.Open) → b.settleFailed k (.rowEnd d) why = (c, []))
          ∧ ((∀ y ∈ rd'.entries, ¬ y.Open) →
              b.settleFailed k (.rowEnd d) why =
                (c.modRobot k fun z => { z with stack := x.stack.filter (fun t => !t.isRound), outcome := .roundDone },
                  if x.stack.head?.any RobotTask.isRound then [.giveTop k] else [])))
  ∧ ∀ (u : ShuttleId) (s : State) (before after : List Transfer) (t : Transfer) (x : RunStep) (d : RowId) (rd : Round),
      s.inReset = false → s.blk.expires s.env (.shuttleStep u) = true → (s.blk.shuttle u).current = some t.tag →
      (s.blk.shuttle u).queue = before ++ t :: after → (∀ y ∈ before ++ after, y.tag ≠ t.tag) →
      t.step = .running x → (x = .moveToDest ∨ x = .unloading) → t.origin = .round → t.dest = .rowEnd d →
      (s.blk.robot t.robot).stack = [.round rd] → (∃ y ∈ rd.entries, y.row = d ∧ y.state = .active) →
      (∃ y ∈ rd.entries, y.Open ∧ ¬ (y.row = d ∧ y.state = .active)) →
        let b := s.blk.shuttleFaulted u .timeout
        exec (.shuttleStepExpiry u) s = .next
          { s with
            blk := (((b.stepFailed u t x .shuttleTimeout (before ++ after)).modRow d fun y =>
                { y with reservedBy := none }).modRobot t.robot fun z =>
              { z with
                stack := [.round { rd with
                  entries := rd.entries.map fun y =>
                    if y.row = d ∧ y.state = .active then
                      { y with state := .skipped, entered := false, reason := some .endBusy }
                    else y }] }) }

/-! ## Row transfers (chapter 4) -/

/-- TRANSFER: the checks 3 to 9 of R66 in their order, each with its outcome, for a robot IDLE at a row end and for one CARRIED,
to a row end and to the garage; a refused request changes nothing else (R183). -/
def Obligations.TransferChecksInOrder : Prop :=
  ∀ (f : Frame) (robot : Byte) (k : RobotId) (dest : Dest) (s : State), Taken (.transfer dest) f s →
    robot.toNat = k.val → (∀ d, dest = .rowEnd d → (s.env.row d).present = true) →
    let z := s.blk.robot k
    let answer := fun c : Code => exec (.transfer f robot dest) s = .next (answered (.transfer dest) f { code := c } s)
    let storm := s.blk.weather = .park ∨ s.blk.weather = .stow
    let from' := fun via : Option ShuttleId => z.transfer = none
      ∧ ((∃ p, z.mode = .idle ∧ z.location = .rowEnd p ∧ via = (s.env.row p).shuttle)
        ∨ ∃ u, z.mode = .carried ∧ z.location = .carried u ∧ via = some u)
    let own := match dest with
      | .rowEnd d => z.location = .rowEnd d
      | .garage => z.mode = .carried ∧ z.inGarage = true
    let locked := ∃ d, dest = .rowEnd d ∧ (s.blk.row d).locked ≠ none
    let free := fun u => match dest with
      | .rowEnd d =>
        let x := s.blk.row d
        x.occupant = none ∧ x.reservation = none ∧ x.holder = none ∧ (x.reservedBy = none ∨ x.reservedBy = some k)
      | .garage =>
        (∀ j, (s.blk.robot j).location = .carried u → (s.blk.robot j).inGarage = false)
          ∧ ∀ t ∈ (s.blk.shuttle u).queue, t.dest ≠ .garage
    (storm → answer .weather)
    ∧ (¬ storm → (∀ via, ¬ from' via) → answer .state)
    ∧ ∀ via, ¬ storm → from' via →
        let route := fun u => via = some u ∧ (s.blk.shuttle u).mode ≠ .faulted
          ∧ ∀ d, dest = .rowEnd d → (s.env.row d).shuttle = some u
        (own → answer .sameRow)
        ∧ (¬ own → (∀ u, ¬ route u) → answer .noRoute)
        ∧ ∀ u, ¬ own → route u →
            (locked → answer .state)
            ∧ (¬ locked → ¬ free u → answer .endBusy)
            ∧ (¬ locked → free u → 8 ≤ (s.blk.shuttle u).queue.length → answer .full)

/-- TRANSFER accepted (R67, R68), from a row end or a shuttle, to a row end or the garage: the lowest free tag, the record at the
tail of the queue, the end reservation or the garage claim, the robot WAIT_TRANSFER at its end or CARRIED still, and an ATTEND
order cleared. Then the shuttle is offered work (R69): where it takes none now the record stands QUEUED, and where it is IDLE
with no current transfer the record it chooses starts its first step (R70). A carried robot bound for the garage starts at
MOVE_TO_DEST (the model's reading, log entry 13). -/
def Obligations.TransferAccepted : Prop :=
  ∀ (f : Frame) (robot : Byte) (k : RobotId) (u : ShuttleId) (tag : Tag) (source : Source) (dest : Dest) (s : State),
    Taken (.transfer dest) f s → robot.toNat = k.val → (s.blk.weather ≠ .park ∧ s.blk.weather ≠ .stow) →
    (s.blk.robot k).transfer = none → (s.blk.shuttle u).mode ≠ .faulted → (s.blk.shuttle u).queue.length < 8 →
    s.blk.LowestFree tag →
    (match source with
      | .rowEnd p => (s.blk.robot k).mode = .idle ∧ (s.blk.robot k).location = .rowEnd p ∧ (s.env.row p).shuttle = some u
      | .carried v => v = u ∧ (s.blk.robot k).mode = .carried ∧ (s.blk.robot k).location = .carried u) →
    (match dest with
      | .rowEnd d =>
        let x := s.blk.row d
        source ≠ .rowEnd d ∧ (s.env.row d).present = true ∧ (s.env.row d).shuttle = some u ∧ x.locked = none
          ∧ x.occupant = none ∧ x.reservation = none ∧ x.holder = none ∧ (x.reservedBy = none ∨ x.reservedBy = some k)
      | .garage =>
        (∀ j, (s.blk.robot j).location = .carried u → (s.blk.robot j).inGarage = false)
          ∧ ∀ t ∈ (s.blk.shuttle u).queue, t.dest ≠ .garage) →
    let claimed : Block := match dest with
      | .rowEnd d => s.blk.modRow d fun x => { x with reservation := some tag }
      | .garage => s.blk
    let b := (claimed.modRobot k fun z =>
        { z with
          transfer := some tag, order := if z.order = .attend then .none else z.order
          mode := match source with | .rowEnd _ => .waitTransfer | .carried _ => .carried }).modShuttle u fun x =>
      { x with
        queue := x.queue ++
          [{ tag := tag, robot := k, source := source, dest := dest, origin := .fleet, step := .queued }] }
    let ends := fun c : Block => exec (.transfer f robot dest) s = .next
      { answered (.transfer dest) f { code := .accepted, payload := [BitVec.ofNat 8 tag.val] } s with blk := c }
    (s.blk.Occupied u → ends b) ∧ ∀ c, Offers s.env none u b c → ends c

/-- CLEAR_SHUTTLE (R79): a FAULTED shuttle is made LOCAL with a STATUS placed, and keeps its queue and its load; any other
shuttle is answered STATE, and a number outside 0..3 BAD_VALUE. A transaction of it in flight is marked for discard (R86).
LINK_RESUME (R92): STATE with CONTEND asserted or the link ENABLED; otherwise the link is ENABLED and a STATUS is placed for
every LOCAL shuttle. -/
def Obligations.ShuttlesAreMadeLocal : Prop :=
  (∀ (f : Frame) (shuttle : Byte) (s : State), Taken .clearShuttle f s →
     (4 ≤ shuttle.toNat → exec (.clearShuttle f shuttle) s = .next (answered .clearShuttle f { code := .badValue } s))
     ∧ ∀ u : ShuttleId, shuttle.toNat = u.val →
         ((s.blk.shuttle u).mode ≠ .faulted →
           exec (.clearShuttle f shuttle) s = .next (answered .clearShuttle f { code := .state } s))
         ∧ ((s.blk.shuttle u).mode = .faulted →
           ∃ b, exec (.clearShuttle f shuttle) s = .next { answered .clearShuttle f { code := .ok } s with blk := b }
             ∧ MadeLocal u s.blk b))
  ∧ (∀ (f : Frame) (s : State), Taken .linkResume f s →
       ((s.contend = true ∨ s.blk.link.enabled = true) →
           exec (.linkResume f) s = .next (answered .linkResume f { code := .state } s))
       ∧ (s.contend = false → s.blk.link.enabled = false →
           ∃ q : Vector (Option Transaction) 4,
             exec (.linkResume f) s = .next
               { answered .linkResume f { code := .ok } s with
                 blk := { s.blk with link := { s.blk.link with enabled := true, queue := q } } }
             ∧ ∀ u : ShuttleId, q[u] =
                 if (s.blk.shuttle u).mode = .localUnknown then some { op := .status, counts := false } else s.blk.link.queue[u]))

/-- SHUTTLE_STEP_EXPIRY (R76): the shuttle becomes FAULTED (TIMEOUT) with its poll and its pending transaction gone, and its
current transfer fails with SHUTTLE_TIMEOUT: its record, its deadline and its destination's reservation go, and its robot is
left where the table of R75 says. Said for a transfer of origin FLEET. Where the entry is not due nothing happens (the
model's choice, log entry 2). POLL_DUE (R71): a poll due that has reached 0 becomes none and places a STATUS, which counts
for the running step when that step's command has completed; a placement is dropped while the link is FAULTED (R84). Where
no poll is due nothing happens (the model's choice, log entries 2 and 4). -/
def Obligations.StepTimeoutAndPolls : Prop :=
  (∀ (u : ShuttleId) (s : State), s.inReset = false →
     (s.blk.expires s.env (.shuttleStep u) = false → exec (.shuttleStepExpiry u) s = .next s)
     ∧ ∀ (tag : Tag) (before after : List Transfer) (t : Transfer) (x : RunStep),
         s.blk.expires s.env (.shuttleStep u) = true → (s.blk.shuttle u).current = some tag →
         (s.blk.shuttle u).queue = before ++ t :: after → t.tag = tag → (∀ z ∈ before ++ after, z.tag ≠ tag) →
         t.step = .running x → t.origin = .fleet →
         ((x = .moveToSource ∨ x = .loading) → ∃ r, t.source = .rowEnd r) →
         exec (.shuttleStepExpiry u) s = .next
           { s with
             blk := (s.blk.shuttleFaulted u .timeout).stepFailed u t x .shuttleTimeout (before ++ after) })
  ∧ (∀ (u : ShuttleId) (s : State), s.inReset = false →
       ((s.blk.shuttle u).pollDue ≠ some 0 → exec (.pollDue u) s = .next s)
       ∧ ((s.blk.shuttle u).pollDue = some 0 →
           let counts := ((s.blk.shuttle u).mode == .moving || (s.blk.shuttle u).mode == .docking)
             && (s.blk.shuttle u).commandSent
           exec (.pollDue u) s = .next
             { s with
               blk := (s.blk.modShuttle u fun x => { x with pollDue := none }).placeLink u .status counts }))

/-! ## The shuttle link (chapter 5) -/

/-- The contention fault (R88, R89, R90): CONTEND rising on an ENABLED link makes it FAULTED, drops its queue and its transaction in
flight, makes every shuttle that is not OFFLINE LOCAL, puts every dispatched transfer IN_DOUBT with its step kept, removes every
SHUTTLE_STEP entry and sets the link-fault flag (R148). On a FAULTED link, and at a fall, only the input's level changes. -/
def Obligations.ContentionLatches : Prop :=
  ∀ s : State,
    exec .contendDeasserted s = .next { s with contend := false }
    ∧ (s.contend = true ∨ s.blk.link.enabled = false → exec .contendAsserted s = .next { s with contend := true })
    ∧ (s.inReset = false → s.contend = false → s.blk.link.enabled = true →
        ∃ b, exec .contendAsserted s = .next { s with contend := true, blk := b }
          ∧ Latched s.blk.link.lastServed s.blk b)

/-- TRANSACTION_START (R85): an ENABLED link with nothing in flight takes the pending transaction of the first shuttle, in
cyclic order, after the last-served one; with CONTEND asserted the start latches the contention fault instead (R88, R89, R90:
the link FAULTED and empty, its shuttles LOCAL, their dispatched transfers IN_DOUBT, the SHUTTLE_STEP entries gone, the
link-fault flag set), the last-served pointer having moved (the model's reading, log entry 18). That a TRANSACTION_START with
nothing to start changes nothing is the model's choice (log entry 2). What a transaction in flight sends (R82, R187): the
address byte and the data of a command, each most significant bit first, one bit a period from period 1 on; and its length at
the bit period it was started at. -/
def Obligations.ArbiterServesInTurn : Prop :=
  ∀ s : State, s.inReset = false →
    ((s.blk.link.enabled = false ∨ s.blk.link.inFlight ≠ none ∨ ∀ u : ShuttleId, s.blk.link.queue[u] = none) →
        exec .transactionStart s = .next s)
    ∧ ∀ (u : ShuttleId) (x : Transaction), s.blk.link.enabled = true → s.blk.link.inFlight = none →
        s.blk.link.queue[u] = some x →
        (∀ v : ShuttleId, v - s.blk.link.lastServed - 1 < u - s.blk.link.lastServed - 1 → s.blk.link.queue[v] = none) →
        (s.contend = false →
          exec .transactionStart s = .next
            { s with blk := { s.blk with link := { s.blk.link with
                queue := s.blk.link.queue.set u none, lastServed := u
                inFlight := some
                  { shuttle := u, txn := x, buffer := x.op.data, discard := false, period := s.env.params.bitPeriod } } } })
        ∧ (s.contend = true →
          ∃ b, exec .transactionStart s = .next { s with blk := b } ∧ Latched u s.blk b)
    ∧ ∀ x : Flight, s.blk.link.enabled = true → s.blk.link.inFlight = some x → x.buffer = x.txn.op.data →
        let address := fun code direction : Nat => BitVec.ofNat 8 (64 * x.shuttle.val + 8 * code + 4 * direction)
        let load := fun k : Option RobotId => BitVec.ofNat 8 (orNone k)
        let sent : List Byte := match x.txn.op with
          | .move r k => [address 1 0, BitVec.ofNat 8 r.val, load k]
          | .load k r => [address 2 0, BitVec.ofNat 8 k.val, BitVec.ofNat 8 r.val]
          | .unload k r => [address 3 0, BitVec.ofNat 8 k.val, BitVec.ofNat 8 r.val]
          | .garage k => [address 4 0, load k]
          | .status => [address 5 1]
        (∀ i, s.linkBit (i + 1) =
            if i < 8 * sent.length then some ((sent.getD (i / 8) 0).getLsbD (7 - i % 8)) else none)
          ∧ s.linkBit 0 = none
          ∧ x.micros = x.period * (match x.txn.op with | .status => 51 | .garage _ => 18 | _ => 26)

/-- The validity test of R83 and the fields of a valid status (R82, R187), from the five bytes the shuttle drove, each most
significant bit first.
TRANSACTION_COMPLETION (R86, R70, R71, R83): a discarded one and one of a FAULTED or OFFLINE shuttle leave the shuttle's
record but for the last fault code of a valid status; a command sets the poll due; a STATUS that is not valid sets the poll
due alone. A valid one of an IDLE shuttle (R74) sets the poll due, the position and the last fault code, and a state code FAULT
or an unexpected load makes the shuttle FAULTED with no poll due; a FAULTED shuttle is sent nothing (R64), and that its pending
transaction is withdrawn for it is the model's reading (log entry 14). That a completion with nothing in flight changes nothing is the model's choice (log entry 2). -/
def Obligations.CompletionIsHandedBack : Prop :=
  (∀ (x : Shuttle) (d : StatusBytes) (st : Status),
     readStatus x d = some st ↔
       ((d.state = 1 ∧ st.state = .ready) ∨ (d.state = 2 ∧ st.state = .working) ∨ (d.state = 3 ∧ st.state = .fault))
         ∧ st.row.val = d.position.toNat ∧ st.garage = d.flags.getLsbD 0 ∧ st.fault = d.fault
         ∧ ((d.load = 0xFF ∧ st.load = none) ∨ ∃ k : RobotId, d.load.toNat = k.val ∧ st.load = some k)
         ∧ (st.garage = true ∨ ∃ lo hi, x.range = some (lo, hi) ∧ lo.val ≤ st.row.val / 16 ∧ st.row.val / 16 ≤ hi.val))
  ∧ (∀ d : StatusBytes, statusOfBits ([d.state, d.position, d.flags, d.load, d.fault].flatMap byteBits) = some d)
  ∧ (∀ (data : StatusBytes) (s : State), s.inReset = false →
       (s.blk.link.inFlight = none → exec (.transactionCompletion data) s = .next s)
       ∧ ∀ x : Flight, s.blk.link.inFlight = some x →
           let b := { s.blk with link := { s.blk.link with inFlight := none } }
           let u := x.shuttle
           let mode := (s.blk.shuttle u).mode
           let dead := mode = .faulted ∨ mode = .offline
           (x.discard = true → exec (.transactionCompletion data) s = .next { s with blk := b })
           ∧ (x.discard = false → x.txn.op ≠ .status → ¬ dead →
               exec (.transactionCompletion data) s = .next
                 { s with
                   blk := b.modShuttle u fun y =>
                     { y with pollDue := some s.env.params.pollInterval, commandSent := true } })
           ∧ (x.discard = false → x.txn.op ≠ .status → dead →
               exec (.transactionCompletion data) s = .next { s with blk := b })
           ∧ (x.discard = false → x.txn.op = .status → readStatus (s.blk.shuttle u) data = none →
               exec (.transactionCompletion data) s = .next
                 { s with
                   blk := if dead then b else b.modShuttle u fun y => { y with pollDue := some s.env.params.pollInterval } })
           ∧ ∀ st, x.discard = false → x.txn.op = .status → readStatus (s.blk.shuttle u) data = some st →
               (dead →
                 exec (.transactionCompletion data) s = .next
                   { s with blk := b.modShuttle u fun y => { y with lastFault := st.fault } })
               ∧ (mode = .idle →
                 exec (.transactionCompletion data) s = .next
                   { s with
                     blk :=
                       if st.state = .fault then (s.shown u st).shuttleFaulted u .reported
                       else if st.load = (s.blk.shuttle u).load then s.shown u st
                       else (s.shown u st).shuttleFaulted u .loadUnknown }))

/-- The first valid status of a LOCAL shuttle with no transfer IN_DOUBT, by the six checks of R78: state code FAULT; a robot
reported that stands CARRIED there; one that boarded from its row end, which takes the garage where the flag is set; any other
one; none reported with one robot CARRIED there, whose QUEUED transfer fails LOST; none reported and none CARRIED there. After
checks 2, 3, 5 and 6 the shuttle is IDLE and is offered work (R69). Check 5 is said of one robot CARRIED there; which one is
taken of several is the model's choice (log entry 34). The model's readings are that a carried robot bound for the garage
starts at MOVE_TO_DEST (log entry 13), and that the pending transaction of a shuttle that becomes FAULTED, to which nothing is
sent (R64), is withdrawn (log entry 14). -/
def Obligations.FirstStatusSettlesTheShuttle : Prop :=
  ∀ (data : StatusBytes) (u : ShuttleId) (st : Status) (s : State), s.Shows data u st →
    (s.blk.shuttle u).mode = .localUnknown → (s.blk.shuttle u).current = none →
    let b := s.shown u st
    let ends := fun c : Block => exec (.transactionCompletion data) s = .next { s with blk := c }
    let offered := fun c : Block => ∀ d, c.Offered s.env u d → ends d
    let boards := fun (k : RobotId) (r : RowId) =>
      (s.blk.robot k).location = .rowEnd r ∧ ((s.blk.robot k).mode = .idle ∨ (s.blk.robot k).mode = .faulted)
        ∧ (s.blk.robot k).transfer = none ∧ (∀ r', (s.blk.row r').holder ≠ some k)
        ∧ ∃ lo hi, (s.blk.shuttle u).range = some (lo, hi) ∧ lo.val ≤ r.val / 16 ∧ r.val / 16 ≤ hi.val
    (st.state = .fault → ends (b.shuttleFaulted u .reported))
    ∧ (st.state ≠ .fault → ∀ k, st.load = some k →
        ((s.blk.robot k).location = .carried u → offered (b.shuttleSettled u (some k)))
        ∧ (∀ r, boards k r →
            let aboard := (((b.modRow r fun y => { y with occupant := none }).modRobot k fun z =>
                { z with
                  mode := if z.mode = .faulted then .faulted else .carried, location := .carried u, inGarage := st.garage
                  order := .attend }).shuttleSettled u (some k))
            (st.garage = false → offered aboard)
              ∧ (st.garage = true → ∀ c, aboard.GarageTaken u k .lost c → offered c))
        ∧ ((s.blk.robot k).location ≠ .carried u → (∀ r, ¬ boards k r) →
            ends ((b.shuttleFaulted u .loadUnknown).modShuttle u fun y => { y with load := none })))
    ∧ (st.state ≠ .fault → st.load = none →
        ((∀ k, (s.blk.robot k).location ≠ .carried u) → offered (b.shuttleSettled u none))
        ∧ ∀ k, (s.blk.robot k).location = .carried u → (∀ j, j ≠ k → (s.blk.robot j).location ≠ .carried u) →
            let lost := (b.shuttleSettled u none).modRobot k fun z =>
              { z with
                mode := if z.mode = .faulted then .faulted else .idle, location := .unknown, inGarage := false
                order := .attend }
            ((s.blk.robot k).transfer = none → offered lost)
            ∧ ∀ before t after, (s.blk.robot k).transfer = some t.tag →
                (s.blk.shuttle u).queue = before ++ t :: after → (∀ y ∈ before ++ after, y.tag ≠ t.tag) → t.robot = k →
                t.step = .queued → t.source = .carried u → t.origin = .fleet →
                offered (lost.queuedFailed u t .lost (before ++ after)))

/-- The first valid status of a LOCAL shuttle whose current transfer is IN_DOUBT (R93, R94, R95): the record fails LINK, its
robot is placed, and the checks of R78 follow. Loaded, garage flag clear: a RECOVERY record with the lowest free tag takes the
robot to its former end, or to the nearest cradle; with neither it is ordered ATTEND. Loaded, garage flag set: the robot takes
the garage. No load: the robot stands at its end, at the reported row's end, or at UNKNOWN with the order ATTEND. Said for an
origin other than ROUND, for PARK and RECOVERY outside a storm, and where a robot that comes to rest is given nothing. The
model's readings are that a carried robot bound for the garage starts at MOVE_TO_DEST (log entry 13), that the pending
transaction of a shuttle that becomes FAULTED, to which nothing is sent (R64), is withdrawn (log entry 14), and that a PARK or
RECOVERY robot left CARRIED gets no ATTEND order beyond what R93 and R94 give (log entry 17). -/
def Obligations.ReconciliationPlacesTheRobot : Prop :=
  ∀ (data : StatusBytes) (u : ShuttleId) (st : Status) (s : State) (before : List Transfer) (t : Transfer)
      (after : List Transfer) (y : RunStep), s.Shows data u st →
    (s.blk.shuttle u).mode = .localUnknown → (s.blk.shuttle u).current = some t.tag →
    (s.blk.shuttle u).queue = before ++ t :: after → t.step = .inDoubt y →
    (∀ x ∈ before ++ after, x.tag ≠ t.tag ∧ x.step = .queued) → t.origin ≠ .round →
    ((t.origin = .park ∨ t.origin = .recovery) → s.blk.storm = false) →
    let k := t.robot
    let e := s.env
    let f := (s.shown u st).doubtFailed u t (before ++ after)
    let waits := fun c : Block => if t.origin = .charge then c.modRobot k fun z => { z with chargeWait := true } else c
    let attend := fun c : Block => c.modRobot k fun z => { z with order := .attend }
    let ends := fun (load : Option RobotId) (c : Block) =>
      (st.state = .fault → exec (.transactionCompletion data) s = .next { s with blk := c.shuttleFaulted u .reported })
        ∧ (st.state ≠ .fault → ∀ d, (c.shuttleSettled u load).Offered e u d →
            exec (.transactionCompletion data) s = .next { s with blk := d })
    (st.load = some k →
      let a := (f.foundAboard u t st.garage).modShuttle u fun x => { x with load := some k }
      (st.garage = false →
        (∀ d tag, a.RecoverTo e u t st.row d → a.LowestFree tag → ends (some k) (waits (a.recoveryMade u k tag d)))
        ∧ ((∀ d, ¬ a.RecoverTo e u t st.row d) → ends (some k) (waits (attend a))))
      ∧ (st.garage = true →
          let parked := (t.origin = .park ∨ t.origin = .recovery)
            ∧ (s.blk.weather = .park ∨ s.blk.weather = .stow ∨ s.blk.weather = .recover)
          ∀ c, (if parked then a else attend a).GarageTaken u k .link c → ends (some k) (waits c)))
    ∧ (st.load = none → (∀ j, j ≠ k → (s.blk.robot j).location ≠ .carried u) →
        ((s.blk.robot k).mode = .faulted ∨ s.blk.RestsIdle k) →
        let z := s.blk.robot k
        let atEnd := st.garage = false ∧ (e.row st.row).present = true
          ∧ ((s.blk.row st.row).reservation = some t.tag
            ∨ ((s.blk.row st.row).occupant = none ∧ (s.blk.row st.row).reservation = none ∧ (s.blk.row st.row).holder = none))
        let set := fun (l : Location) (o : Order) (c : Block) => c.modRobot k fun w =>
          { w with mode := if w.mode = .faulted then .faulted else .idle, location := l, inGarage := false, order := o }
        ((y = .moveToSource ∨ y = .loading) → (∃ p, z.location = .rowEnd p) → (z.mode = .waitTransfer ∨ z.mode = .faulted) →
          ends none (f.modRobot k fun w => { w with mode := if w.mode = .faulted then .faulted else .idle }))
        ∧ ((y = .moveToDest ∨ y = .unloading) → atEnd →
            ends none (set (.rowEnd st.row) z.order (f.modRow st.row fun w => { w with occupant := some k })))
        ∧ ((y = .moveToDest ∨ y = .unloading) → ¬ atEnd → ends none (waits (set .unknown .attend f))))

/-- A valid status of a MOVING or DOCKING shuttle (R72). One that matches and counts completes the running step: from
MOVE_TO_SOURCE to LOADING; from LOADING, with the robot aboard and the source end free, to MOVE_TO_DEST; from MOVE_TO_DEST to
UNLOADING; each step placing its command and arming its deadline (R70), the robot in the garage no more from MOVE_TO_DEST on
(R63). UNLOADING, and MOVE_TO_DEST at the garage, make the transfer DONE (R73): the robot stands at the end it was taken to,
and comes to rest (R44), or waits in the garage, with the order ATTEND outside a storm and RECOVER; then the charge plans that
wait are retried (R57), the pass of the park plan is made in a storm (R168), and the shuttle, to which offers waited till then,
is offered work (R69). A state code FAULT makes the shuttle FAULTED and fails the transfer SHUTTLE_FAULT (R75), said for origin
FLEET; a FAULTED shuttle is sent nothing (R64), and that its pending transaction is withdrawn for it is the model's reading (log
entry 14). Any other status, and one that does not count, leaves the step running: the poll due, the position and the last
fault code alone are taken. -/
def Obligations.StatusCompletesTheStep : Prop :=
  (∀ (data : StatusBytes) (u : ShuttleId) (st : Status) (s : State) (before : List Transfer) (t : Transfer)
      (after : List Transfer) (y : RunStep), s.Shows data u st → (∀ x, s.blk.link.inFlight = some x → x.txn.counts = true) →
    ((s.blk.shuttle u).mode = .moving ∨ (s.blk.shuttle u).mode = .docking) → st.state = .ready →
    (s.blk.shuttle u).current = some t.tag → (s.blk.shuttle u).queue = before ++ t :: after →
    (∀ x ∈ before ++ after, x.tag ≠ t.tag) → t.step = .running y →
    let e := s.env
    let k := t.robot
    let b := s.shown u st
    let at' := fun r : RowId => st.garage = false ∧ st.row = r
    let run := fun c : Block => exec (.transactionCompletion data) s = .next { s with blk := c }
    let next := fun (mode : ShuttleMode) (go : RunStep) (load : Option RobotId) (op : LinkOp) (c : Block) =>
      (((c.modShuttle u fun w =>
          { w with
            mode := mode, pollDue := none, commandSent := false, load := load
            queue := before ++ { t with step := .running go } :: after }).placeLink u op false).arm
        e (.shuttleStep u) e.params.stepTimeout).modRobot k fun w =>
      { w with inGarage := if go = .moveToDest ∨ go = .unloading then false else w.inGarage }
    let leaves := fun load : Option RobotId => (b.cancel (.shuttleStep u)).modShuttle u fun w =>
      { w with mode := .idle, commandSent := false, load := load, current := none, queue := before ++ after }
    let handedOn := fun c : Block => ∀ d g h,
      InTurn (ChargeRetried e (some u)) (List.finRange 24) c d → PassMade e (some u) d g → Offers e none u g h → run h
    (∀ p, y = .moveToSource → t.source = .rowEnd p → at' p → st.load = none →
        run (next .docking .loading (s.blk.shuttle u).load (.load k p) b))
    ∧ (∀ p, y = .loading → t.source = .rowEnd p → at' p → st.load = some k →
        run (next .moving .moveToDest (some k)
          (match t.dest with | .rowEnd d => .move d (some k) | .garage => .garage (some k))
          ((b.modRow p fun w => { w with occupant := none }).modRobot k fun w =>
            { w with mode := if w.mode = .faulted then .faulted else .carried, location := .carried u })))
    ∧ (∀ d, y = .moveToDest → t.dest = .rowEnd d → at' d → st.load = some k →
        run (next .docking .unloading (s.blk.shuttle u).load (.unload k d) b))
    ∧ (∀ d c, y = .unloading → t.dest = .rowEnd d → at' d → st.load = none →
        ComesToRest e (some u) k
          (((leaves none).modRow d fun w => { w with reservation := none, occupant := some k }).modRobot k fun w =>
            { w with
              location := .rowEnd d, transfer := none, mode := if w.mode = .faulted then .faulted else .idle }) c →
        handedOn c)
    ∧ (y = .moveToDest → t.dest = .garage → st.garage = true → st.load = some k →
        let calm := s.blk.weather = .start ∨ s.blk.weather = .calm ∨ s.blk.weather = .watch
        handedOn ((leaves (s.blk.shuttle u).load).modRobot k fun w =>
          { w with transfer := none, inGarage := true, order := if calm then .attend else w.order })))
  ∧ ∀ (data : StatusBytes) (u : ShuttleId) (st : Status) (s : State) (before : List Transfer) (t : Transfer)
      (after : List Transfer) (y : RunStep), s.Shows data u st →
      ((s.blk.shuttle u).mode = .moving ∨ (s.blk.shuttle u).mode = .docking) → (s.blk.shuttle u).current = some t.tag →
      (s.blk.shuttle u).queue = before ++ t :: after → t.step = .running y → (∀ x ∈ before ++ after, x.tag ≠ t.tag) →
      ((y = .moveToSource ∨ y = .loading) → ∃ p, t.source = .rowEnd p) →
      let aboard := y = .loading ∨ y = .moveToDest
      let target := match y, t.source, t.dest with
        | .moveToSource, .rowEnd p, _ | .loading, .rowEnd p, _ => st.garage = false ∧ st.row = p
        | .moveToDest, _, .rowEnd d | .unloading, _, .rowEnd d => st.garage = false ∧ st.row = d
        | .moveToDest, _, .garage => st.garage = true
        | _, _, _ => False
      let counted := ∀ x, s.blk.link.inFlight = some x → x.txn.counts = true
      let met := st.state = .ready ∧ counted ∧ target ∧ st.load = if aboard then some t.robot else none
      (st.state = .fault → t.origin = .fleet →
          exec (.transactionCompletion data) s = .next
            { s with
              blk := ((s.shown u st).shuttleFaulted u .reported).stepFailed u t y .shuttleFault (before ++ after) })
      ∧ (st.state ≠ .fault → ¬ met → exec (.transactionCompletion data) s = .next { s with blk := s.shown u st })

/-! ## Soiling arithmetic (chapter 7) -/

/-- OUTPUT_REPORT: the checks of R118 in their order, and the acceptance of R119 with T clamped to 900 and a further place of the
reply queue reserved by the record. -/
def Obligations.OutputReportIsAccepted : Prop :=
  ∀ (f : Frame) (pref t : BitVec 16) (n : Byte) (pairs : List (RowId × BitVec 16)) (s : State), Taken .outputReport f s →
    (Instr.outputReport f pref t n pairs).WellFormed →
    let sized := 1 ≤ n.toNat ∧ n.toNat ≤ 64 ∧ f.len.toNat = 5 + 3 * n.toNat
    let room := (s.inFlight = none ∨ s.waiting = none) ∧ 2 ≤ s.freePlaces .plant
    let answer := fun c : Code => exec (.outputReport f pref t n pairs) s = .next (answered .outputReport f { code := c } s)
    (¬ sized → answer .badValue)
    ∧ (sized → t = 0 → answer .badValue)
    ∧ (sized → t ≠ 0 → ¬ room → answer .busy)
    ∧ (sized → t ≠ 0 → room →
        let used := min 900 t.toNat
        let record : Report :=
          { tag := f.tag, pref := pref.toNat, t := used, pairs := pairs, next := 1, processed := 0, skipped := 0
            lowLight := false, reserved := true }
        exec (.outputReport f pref t n pairs) s = .next
          { answered .outputReport f
              { code := .accepted
                payload := [BitVec.ofNat 8 (used / 256), BitVec.ofNat 8 used, if 900 < t.toNat then 1 else 0] } s with
            inFlight := if s.inFlight = none then some record else s.inFlight
            waiting := if s.inFlight = none then s.waiting else some record })

/-- ROW_STEP: the step of the next pair (R120) through the stages A to J: the light gate (R123), E (R124), S and the disturbance
gate (R125), the smoothing (R126), f (R127), G (R128), the loss and the recovered share (R129), the hold cost (R130) and the
class test (R131), with the additions to the row and to the LIVE bank saturating (R132, R138, R140); and, at the last pair,
the completion of the report with its reply in the reserved place (R121, R122). The engine's arbiter (R117): a row step does
not come while a mast sample waits, or with no report in flight, and a mast step does not come with no sample. That the
command then does nothing is the model's choice (log entries 2 and 26). -/
def Obligations.RowStepTakesTheStages : Prop :=
  (∀ (s : State) (x : Report) (r : RowId) (pm : BitVec 16), s.inReset = false → s.mastA.pending = none → s.mastB.pending = none →
     s.inFlight = some x → x.pairs[x.next - 1]? = some (r, pm) →
     let p := s.env.params
     let d := s.env.row r
     let y := s.blk.row r
     let top := 2 ^ 48 - 1
     let finish := fun (u : State) (processed skipped : Nat) (low : Bool) =>
       let low' := if low then 1 else 0
       if x.next < x.pairs.length then
         { u with
           inFlight := some { x with next := x.next + 1, processed := processed, skipped := skipped, lowLight := low } }
       else
         { u with
           inFlight := s.waiting, waiting := none
           live := { u.live with
             reports := min 65535 (u.live.reports + 1), lowLight := min 65535 (u.live.lowLight + low')
             saturated := u.live.saturated || decide (65535 < u.live.reports + 1)
               || decide (65535 < u.live.lowLight + low') }
           plant := if x.reserved then
               { s.plant with
                 replies := s.plant.replies ++
                   [{ tag := x.tag, kind := 0x14, outcome := 0
                      payload := [BitVec.ofNat 8 processed, BitVec.ofNat 8 skipped, if low then 1 else 0,
                        BitVec.ofNat 8 (x.t / 256), BitVec.ofNat 8 x.t] }] }
             else s.plant }
     let e := (x.pref * d.kc + 2048) / 4096
     let lack := e - pm.toNat
     let gain := (pm.toNat - e) * x.t
     let held := min d.holdSeconds x.t
     let disturbed := 0 < held ∨ y.tracker = .held ∨ y.tracker = .stowReleased ∨ y.tracker = .stowed
       ∨ y.tracker = .unstowWanted ∨ y.tracker = .faulted
     let cls := fun ss es f : Nat =>
       if y.locked ≠ none ∨ y.stranded = true ∨ y.tracker = .faulted ∨ y.faultNoted = true then (0 : Urgency)
       else if ss * p.payback < (es * p.tiltPenalty + 2048) / 4096 * p.cleaningHold then 0
       else if max p.thr3 (max p.thr2 p.thr1) ≤ f then 3
       else if max p.thr2 p.thr1 ≤ f then 2 else if p.thr1 ≤ f then 1 else 0
     (d.present = false → exec .rowStep s = .next (finish s x.processed (x.skipped + 1) x.lowLight))
     ∧ (d.present = true → x.pref < p.lightFloor →
         exec .rowStep s = .next
           (finish { s with env := s.env.modRow r fun z => { z with holdSeconds := 0 } } (x.processed + 1) x.skipped true))
     ∧ (d.present = true → p.lightFloor ≤ x.pref → disturbed →
         let cost := (e * p.tiltPenalty + 2048) / 4096 * held
         exec .rowStep s = .next
           (finish
             { s with
               env := s.env.modRow r fun z => { z with holdSeconds := 0 }
               blk := s.blk.modRow r fun z => { z with cls := cls d.ss d.es d.f }
               live := { s.live with
                 gain := min top (s.live.gain + gain), holdCost := min top (s.live.holdCost + cost)
                 saturated := s.live.saturated || decide (top < s.live.gain + gain)
                   || decide (top < s.live.holdCost + cost) } }
             (x.processed + 1) x.skipped x.lowLight))
     ∧ (d.present = true → p.lightFloor ≤ x.pref → ¬ disturbed →
         let m := if y.restart then 0 else p.smoothing
         let smoothed := fun old new : Nat =>
           if m = 0 then new else ((2 ^ m - 1) * old + new + 2 ^ (m - 1)) / 2 ^ m
         let ss := smoothed d.ss lack
         let es := smoothed d.es e
         let f := if es = 0 then d.f else min 4096 ((ss * 4096 + es / 2) / es)
         let share := (if 0 < d.credit then (e * d.fPre + 2048) / 4096 - lack else 0) * x.t
         let loss := lack * x.t
         exec .rowStep s = .next
           (finish
             { s with
               env := s.env.modRow r fun z =>
                 { z with
                   ss := ss, es := es, f := f, loss := min top (z.loss + loss), recovered := min top (z.recovered + share)
                   credit := z.credit - 1, holdSeconds := 0
                   saturated := z.saturated || decide (top < z.loss + loss) || decide (top < z.recovered + share) }
               blk := s.blk.modRow r fun z => { z with restart := false, cls := cls ss es f }
               live := { s.live with
                 gain := min top (s.live.gain + gain), loss := min top (s.live.loss + loss)
                 recovered := min top (s.live.recovered + share)
                 saturated := s.live.saturated || decide (top < s.live.gain + gain) || decide (top < s.live.loss + loss)
                   || decide (top < s.live.recovered + share) } }
             (x.processed + 1) x.skipped x.lowLight)))
  ∧ (∀ s : State, s.inReset = false →
       ((s.mastA.pending ≠ none ∨ s.mastB.pending ≠ none ∨ s.inFlight = none) → exec .rowStep s = .next s)
       ∧ (s.mastA.pending = none → s.mastB.pending = none → exec .mastStep s = .next s))

/-- CALIBRATE_ROW (R134): kc clamped to 2048..6144, Ss, Es and f 0, RESTART set and the class set anew; the reply carries kc as
stored and whether it was clamped. -/
def Obligations.CalibrateRowRestarts : Prop :=
  ∀ (f : Frame) (r : RowId) (kc : BitVec 16) (s : State), Taken .calibrateRow f s → (s.env.row r).present = true →
    let stored := min 6144 (max 2048 kc.toNat)
    let d := { s.env.row r with kc := stored, ss := 0, es := 0, f := 0 }
    exec (.calibrateRow f r kc) s = .next
      { answered .calibrateRow f
          { code := .ok
            payload := [BitVec.ofNat 8 (stored / 256), BitVec.ofNat 8 stored, if stored ≠ kc.toNat then 1 else 0] } s with
        env := s.env.modRow r fun _ => d
        blk := s.blk.modRow r fun y => { y with restart := true, cls := classTest s.env.params d y } }

/-! ## Yield accounts (chapter 8) -/

/-- CLOSE_PERIOD (R142): the CLOSED bank is discarded, LIVE becomes CLOSED with its close time and its read flag clear, a new
LIVE bank is opened, and the reply carries the unread-discarded flag and the close time. RESET_ACCOUNTS (R146): both banks
at zero and opened now, CLOSED counting as read, and for every row, present or not, both accumulators 0, the saturated flag
clear and the credit count 0; the reply carries the unread-discarded flag. Nothing else changes.
READ_LIVE (R145) answers the fields of the LIVE bank in the order of R137, now, and the plant attention set (R149), and
changes no state; READ_PERIOD (R144) answers those of the CLOSED bank and sets its read flag. The layout of the attention set
within the reply is the model's reading (log entry 10). -/
def Obligations.BanksAreClosedResetAndRead : Prop :=
  let shows := fun (p : List Byte) (x : Bank) =>
    fieldAt p 0 6 = x.loss ∧ fieldAt p 6 6 = x.gain ∧ fieldAt p 12 6 = x.recovered ∧ fieldAt p 18 6 = x.holdCost
      ∧ fieldAt p 24 4 = x.stormSeconds ∧ fieldAt p 28 2 = x.reports ∧ fieldAt p 30 2 = x.lowLight
      ∧ fieldAt p 32 4 = x.start.toNat
  let items := fun (s : State) (p : List Byte) =>
    p = [if s.closed.read then 0 else 1, if s.plant.replies.any Reply.isCompletion then 1 else 0,
        if s.blk.weatherChanged then 1 else 0, if s.blk.linkFaultItem then 1 else 0,
        if 0 < fleetResetLocks s.env s.blk then 1 else 0] ++ bytesOf 2 (fleetResetLocks s.env s.blk)
  (∀ (f : Frame) (s : State), Taken .closePeriod f s →
     exec (.closePeriod f) s = .next
       { answered .closePeriod f
           { code := .ok, payload := (if s.closed.read then 0 else 1) :: bytesOf 4 s.env.now.toNat } s with
         closed := { bank := s.live, close := s.env.now, read := false }
         live :=
           { loss := 0, gain := 0, recovered := 0, holdCost := 0, stormSeconds := 0, reports := 0, lowLight := 0
             start := s.env.now, saturated := false } })
  ∧ (∀ (f : Frame) (s : State), Taken .resetAccounts f s →
       ∃ t, exec (.resetAccounts f) s = .next t
         ∧ (let zero : Bank :=
             { loss := 0, gain := 0, recovered := 0, holdCost := 0, stormSeconds := 0, reports := 0, lowLight := 0
               start := s.env.now, saturated := false }
           t = { answered .resetAccounts f { code := .ok, payload := [if s.closed.read then 0 else 1] } s with
             live := zero, closed := { bank := zero, close := s.env.now, read := true }
             env := { s.env with data := t.env.data } })
         ∧ ∀ r, t.env.row r = { s.env.row r with loss := 0, recovered := 0, saturated := false, credit := 0 })
  ∧ (∀ (f : Frame) (s : State), Taken .readLive f s → s.live.InRange →
      ∃ p, exec (.readLive f) s = .next (answered .readLive f { code := .ok, payload := p } s)
        ∧ shows p s.live ∧ fieldAt p 36 1 = (if s.live.saturated then 1 else 0) ∧ fieldAt p 37 4 = s.env.now.toNat
        ∧ items s (p.drop 41))
  ∧ ∀ (f : Frame) (s : State), Taken .readPeriod f s → s.closed.bank.InRange →
        ∃ p, exec (.readPeriod f) s = .next
            { answered .readPeriod f { code := .ok, payload := p } s with closed := { s.closed with read := true } }
          ∧ shows p s.closed.bank ∧ fieldAt p 36 4 = s.closed.close.toNat
          ∧ fieldAt p 40 1 = (if s.closed.bank.saturated then 1 else 0)
          ∧ fieldAt p 41 1 = (if s.closed.read then 1 else 0) ∧ items s (p.drop 42)

/-! ## Wind measurement (chapter 9) -/

/-- MAST_PULSE (R152): each edge raises its mast's pulse counter by 1, and a counter at 65535 stays there. TICK (R13, R27, R71,
R139, R152, R153): now advances by 1 modulo 2^32, HELD rows count a hold second, the polls due fall by 1, a storm second is
counted in PARK and STOW, and both masts latch their pulse counters. Said where the commands of the tick before have been
taken; a tick that finds some left takes them first (the model's choice, log entry 3). -/
def Obligations.PulsesAndTicks : Prop :=
  (∀ s : State, s.inReset = false →
     exec (.mastPulse .a) s = .next { s with mastA := { s.mastA with pulses := min 65535 (s.mastA.pulses + 1) } }
     ∧ exec (.mastPulse .b) s = .next { s with mastB := { s.mastB with pulses := min 65535 (s.mastB.pulses + 1) } })
  ∧ (∀ s : State, s.inReset = false → (∀ d ∈ s.blk.deadlines, d.remaining s.env.now ≠ 0) →
       (∀ u, (s.blk.shuttle u).pollDue ≠ some 0) →
       let storm := s.blk.weather = .park ∨ s.blk.weather = .stow
       let latched := fun x : MastRec =>
         { x with
           pulses := 0, pending := some x.pulses, lost := if x.pending = none then x.lost else min 65535 (x.lost + 1) }
       ∃ t, exec .tick s = .next t
         ∧ t = { s with
             env := { s.env with now := s.env.now + 1, data := t.env.data }
             blk := { s.blk with shuttles := t.blk.shuttles }
             live := if storm then
                 { s.live with
                   stormSeconds := min (2 ^ 32 - 1) (s.live.stormSeconds + 1)
                   saturated := s.live.saturated || decide (2 ^ 32 - 1 < s.live.stormSeconds + 1) }
               else s.live
             mastA := latched s.mastA, mastB := latched s.mastB }
         ∧ (∀ r, t.env.row r =
             let d := s.env.row r
             { d with
               holdSeconds := if (s.blk.row r).tracker = .held then min 65535 (d.holdSeconds + 1) else d.holdSeconds })
         ∧ ∀ u, t.blk.shuttle u =
             { s.blk.shuttle u with pollDue := (s.blk.shuttle u).pollDue.map fun n => n - 1 })

/-- MAST_STEP, what it does to the mast records: mast A before mast B (R117); the speed (R154), the health counts (R155), the
health change (R156) and the entry of the speed into ring, sum, gust window and gust (R157). Beside the masts only the block
may change, by the level that is handed. The mast level and the block level (R158, R159). -/
def Obligations.MastStepAndLevels : Prop :=
  (∀ (s t : State) (m : Mast) (c : Nat), s.inReset = false → exec .mastStep s = .next t →
     ((m = .a ∧ s.mastA.pending = some c) ∨ (m = .b ∧ s.mastA.pending = none ∧ s.mastB.pending = some c)) →
     let x := s.mast m
     let other := match m with | .a => s.mastB | .b => s.mastA
     let factor := match m with | .a => s.env.params.factorA | .b => s.env.params.factorB
     let v := min 1000 ((c * factor + 128) / 256)
     let silence := if c = 0 ∧ 50 ≤ other.speed then min 120 (x.silence + 1) else 0
     let overrun := if c = 65535 then min 3 (x.overrun + 1) else 0
     let recovery := if x.health = .faulted ∧ 0 < c ∧ c < 65535 then min 10 (x.recovery + 1) else 0
     let fails := x.health = .healthy ∧ (3 ≤ overrun ∨ s.env.params.silenceLimit ≤ silence)
     let heals := x.health = .faulted ∧ 10 ≤ recovery
     let window := (if 3 ≤ x.window.length then x.window.tail else x.window) ++ [v]
     let y : MastRec :=
       if fails then
         { x with
           pending := none, speed := v, health := .faulted, cause := some (if 3 ≤ overrun then .overrun else .silent)
           ring := [], sum := 0, window := [], gust := 0, silence := 0, overrun := 0, recovery := 0 }
       else if x.health = .healthy ∨ heals then
         { x with
           pending := none, speed := v, health := .healthy
           ring := (if 60 ≤ x.ring.length then x.ring.tail else x.ring) ++ [v * v]
           sum := x.sum - (if 60 ≤ x.ring.length then x.ring.headD 0 else 0) + v * v
           window := window, gust := window.foldl max 0
           silence := if heals then 0 else silence, overrun := if heals then 0 else overrun, recovery := 0 }
       else { x with pending := none, speed := v, silence := silence, overrun := overrun, recovery := recovery }
     t = { s.setMast m y with blk := t.blk })
  ∧ (∀ (p : Params) (a b : MastRec),
       let meets := fun (gust sustained : Nat) (x : MastRec) =>
         x.health = .healthy ∧ (gust ≤ x.gust ∨ (x.ring.length = 60 ∧ 60 * sustained * sustained ≤ x.sum))
       let level := fun x : MastRec =>
         if meets p.stowGust p.stowSustained x then Level.stow
         else if meets p.parkGust p.parkSustained x then .park
         else if meets p.watchGust p.watchSustained x then .watch else .none
       a.level p = level a
       ∧ (a.health = .faulted → b.health = .faulted → blockLevel p a b = .park)
       ∧ (a.health = .healthy ∨ b.health = .healthy →
           (blockLevel p a b = level a ∨ blockLevel p a b = level b)
             ∧ (level a).place ≤ (blockLevel p a b).place ∧ (level b).place ≤ (blockLevel p a b).place)
       ∧ (a.health = .faulted → b.health = .healthy → blockLevel p a b = level b))

/-! ## Storm parking (chapter 10) -/

/-- A hand of the block level that brings no storm (R163, R164, R165): the level field takes it, CALM_HOLDOFF is armed or cancelled
by whether the level is none, WATCH is entered from CALM, START is left at the hand whose ring-filled flag is set, and RECOVER
where the test of R177 passes (CALM entry, R178). It comes from MAST_STEP, and from a CONFIGURE of a wind threshold with the
flag clear (R159; at every such CONFIGURE, log entry 16). -/
def Obligations.LevelIsHanded : Prop :=
  (∀ (s : State) (m : Mast) (c : Nat), s.inReset = false → s.servedMast = some (m, c) →
      let u := s.stepMast m c
      let l := u.windLevel
      let filled := (s.mast m).ring.length ≠ 60 ∧ (u.mast m).ring.length = 60
      let w := s.blk.weather
      let b := s.blk.handed s.env l
      (l.place ≤ w.rank → (w = .start → ¬ filled) →
          b.ThenTested s.env fun c => exec .mastStep s = .next { u with blk := c })
      ∧ (l = .watch → (w = .calm ∨ (w = .start ∧ filled)) →
          exec .mastStep s = .next { u with blk := { b with weather := .watch, weatherChanged := true } })
      ∧ (∀ c, l = .none → w = .start → filled → CalmEntered s.env b c → exec .mastStep s = .next { u with blk := c }))
    ∧ ∀ (f : Frame) (parameter : Byte) (value : BitVec 32) (p : Params) (s : State), Taken .configure f s →
        ∀ x ∈ paramTable, parameter.toNat = x.number → 0x13 ≤ x.number → x.number ≤ 0x18 →
          x.Stored value.toNat s.env.params p →
          let e := { s.env with params := p }
          let l := blockLevel p s.mastA s.mastB
          let w := s.blk.weather
          let put := fun b : Block => exec (.configure f parameter value) s = .next
            { answered .configure f { code := .ok, payload := bytesOf 4 (x.get p) } s with env := e, blk := b }
          (l.place ≤ w.rank → (s.blk.handed e l).ThenTested e put)
          ∧ (l = .watch → w = .calm →
              put { s.blk.handed e l with weather := .watch, weatherChanged := true })

/-- A rise to PARK or STOW at a mast step (R163, R167, R175): whatever the hand-ons do, the weather state takes the level's
name, the weather-changed flag is set, STOWD is asserted at a rise to STOW, and the level field holds the level; in any
weather but START and RECOVER a hand that is no rise leaves the weather state. A rise to PARK or STOW at a mast step, and at a
CONFIGURE of a wind threshold (R159; at every such CONFIGURE, log entry 16), takes the entries' actions in their order: the
weather, PARK_DEADLINE, the QUEUED records of priority NORMAL failed STORM, a PARK task for every robot that holds none, the
stow release of every present row, for STOW also STOWD and the STRANDED marks, and the pass of the park plan (R168); said where
no shuttle takes work now. -/
def Obligations.WeatherFollowsTheLevel : Prop :=
  (∀ s t : State, s.inReset = false → s.servedMast ≠ none → exec .mastStep s = .next t →
     let l := t.windLevel
     t.blk.level = l
     ∧ (s.blk.weather.rank < l.place →
         (l = .watch → t.blk.weather = .watch) ∧ (l = .park → t.blk.weather = .park)
           ∧ (l = .stow → t.blk.weather = .stow ∧ t.blk.stowd = true) ∧ t.blk.weatherChanged = true)
     ∧ (l.place ≤ s.blk.weather.rank → s.blk.weather ≠ .start → s.blk.weather ≠ .recover →
         t.blk.weather = s.blk.weather ∧ t.blk.stowd = s.blk.stowd))
  ∧ (∀ (s : State) (m : Mast) (c : Nat), s.inReset = false → s.servedMast = some (m, c) → s.blk.EntersPlainly →
       let u := s.stepMast m c
       let l := u.windLevel
       (l = .park ∨ l = .stow) → s.blk.weather.rank < l.place →
         ∀ c, PassMade s.env none (s.blk.stormEntered s.env l) c → exec .mastStep s = .next { u with blk := c })
  ∧ ∀ (f : Frame) (parameter : Byte) (value : BitVec 32) (p : Params) (s : State), Taken .configure f s →
      s.blk.EntersPlainly →
      ∀ x ∈ paramTable, parameter.toNat = x.number → 0x13 ≤ x.number → x.number ≤ 0x18 → x.Stored value.toNat s.env.params p →
        let e := { s.env with params := p }
        let l := blockLevel p s.mastA s.mastB
        (l = .park ∨ l = .stow) → s.blk.weather.rank < l.place →
          ∀ c, PassMade e none (s.blk.stormEntered e l) c →
            exec (.configure f parameter value) s = .next
              { answered .configure f { code := .ok, payload := bytesOf 4 (x.get p) } s with env := e, blk := c }

/-- The park plan of a robot (R169): the first line that it meets. The place sought for it (R170): the free cradle nearest the
reference row, the lowest where there is none, then the garage of the shuttle; a transfer there of origin PARK, placed before
the QUEUED records of priority NORMAL (R68), or the park wait for a full queue; with no place, or a shuttle none or FAULTED,
the order BRACE, or ATTEND for a carried robot. SAFE and UNPARKED give their outcomes once (R171). Outside a storm the plan
changes nothing (R168). -/
def Obligations.ParkPlanSeeksAPlace : Prop :=
  ∀ (e : Env) (k : RobotId) (b : Block),
    let z := b.robot k
    let plans := fun c : Block => planRobot e k b = (c, [])
    let late := b.weather = .stow ∨ b.deadlinePassed = true
    let braced := z.mode = .braced ∨ z.order = .brace
    let safe := (∃ c, z.location = .rowEnd c ∧ (e.row c).cradle = true) ∨ ((∃ u, z.location = .carried u) ∧ z.inGarage = true)
    let seeks := fun (source : Source) (p : Option RowId) (via : Option ShuttleId) =>
      ((∀ u, via = some u → (b.shuttle u).mode = .faulted ∨ ∀ d, ¬ b.ParkPlace e u p d) → plans (b.unplaced k))
      ∧ ∀ u d, via = some u → (b.shuttle u).mode ≠ .faulted → b.ParkPlace e u p d →
          (8 ≤ (b.shuttle u).queue.length → plans (b.modRobot k fun w => { w with parkWait := true }))
          ∧ ∀ tag before after, (b.shuttle u).queue.length < 8 → b.LowestFree tag →
              let normal := fun t : Transfer => t.step = .queued ∧ t.origin ≠ .park ∧ t.origin ≠ .recovery
              (b.shuttle u).queue = before ++ after → (∀ t ∈ before, ¬ normal t) → (∀ t ∈ after.head?, normal t) →
              planRobot e k b = (b.parkAsked u k tag source d before after, [.offer u])
    (b.storm = false → plans b)
    ∧ (b.storm = true → braced → plans (b.modRobot k fun w => { w with parkWait := false }))
    ∧ (b.storm = true → ¬ braced → safe →
        plans (b.modRobot k fun w =>
          { w with
            parkWait := false, standing := .safe, outcome := if w.standing = .safe then w.outcome else .parked }))
    ∧ (b.storm = true → ¬ braced → ¬ safe →
        (z.transfer ≠ none ∨ z.mode = .waitHold → plans b)
        ∧ (z.transfer = none →
            (z.mode = .faulted → ((∃ r, z.location = .rowEnd r) ∨ z.location = .unknown) → plans b)
            ∧ (∀ r, z.location = .onRow r → (z.mode = .onRow ∨ z.mode = .faulted) →
                let c := if late then b.modRow r fun x => { x with stranded := true, cls := 0 } else b
                plans
                  (if z.mode = .faulted then c
                  else if b.deadlinePassed = true then c.unplaced k
                  else c.modRobot k fun w => { w with order := .exit }))
            ∧ (∀ r, z.mode = .idle → z.location = .rowEnd r →
                if b.deadlinePassed = true then plans (b.unplaced k) else seeks (.rowEnd r) (some r) (e.row r).shuttle)
            ∧ (∀ u, z.location = .carried u →
                (z.mode = .carried →
                  seeks (.carried u) (match (b.shuttle u).position with | some (.rowEnd r) => some r | _ => none) (some u))
                ∧ (z.mode = .faulted → plans (b.unplaced k)))
            ∧ (z.mode = .idle → z.location = .unknown →
                plans (b.modRobot k fun w =>
                  { w with
                    standing := .unparked, outcome := if w.standing = .unparked then w.outcome else .noPark }))))

/-- BRACED: the checks of R173 in their order; outside a storm the robot braces and is at once ordered UNBRACE, and in a storm its
BRACE order is cleared and the row it holds is released for stow. The test of R177, made in RECOVER, does not pass over a BRACED
robot. In a storm the pass of the park plan follows (R168). -/
def Obligations.BracedReleasesTheRow : Prop :=
  ∀ (f : Frame) (robot : Byte) (k : RobotId) (s : State), Taken .braced f s → robot.toNat = k.val →
    let z := s.blk.robot k
    let answer := fun c : Code => exec (.braced f robot) s = .next (answered .braced f { code := c } s)
    let pendingHold := ∃ r, (s.blk.row r).holder = some k ∧ (s.blk.row r).tracker = .holdPending
    let posture := ((z.mode = .idle ∨ z.mode = .faulted) ∧ ∃ r, z.location = .rowEnd r)
      ∨ ((z.mode = .onRow ∨ z.mode = .faulted) ∧ ∃ r, z.location = .onRow r)
    let braced := fun (o : Order) (w : Robot) =>
      { w with mode := .braced, faultPending := w.faultPending || w.mode == .faulted, parkWait := false, order := o }
    (z.mode = .absent → answer .state)
    ∧ (z.mode = .braced → answer .ok)
    ∧ (z.mode ≠ .absent → z.mode ≠ .braced → (pendingHold ∨ ¬ posture) → answer .state)
    ∧ (¬ pendingHold → posture → s.blk.storm = false →
        exec (.braced f robot) s = .next
          { answered .braced f { code := .ok } s with blk := s.blk.modRobot k (braced .unbrace) })
    ∧ (¬ pendingHold → posture → s.blk.storm = true →
        let b := s.blk.modRobot k (braced (if z.order = .brace then .none else z.order))
        let ends := fun c : Block => ∀ d, PassMade s.env none c d →
          exec (.braced f robot) s = .next { answered .braced f { code := .ok } s with blk := d }
        ((∀ r, (s.blk.row r).holder ≠ some k) → ends b)
        ∧ ∀ r, (s.blk.row r).holder = some k → (∀ r', (s.blk.row r').holder = some k → r' = r) →
            ends (b.modRow r fun x =>
              { x with
                tracker := match x.tracker with
                  | .held => .stowReleased
                  | .unstowWanted => .stowed
                  | other => other }))

/-- UNBRACED: the checks of R174; the holder of a row goes back on its surface with the row back to its hold (R35), and any other
robot is IDLE at its end and comes to rest, its top task given it (R44); a pending fault makes it FAULTED instead (R55). In a
storm the pass of the park plan follows (R168), and otherwise the test of R177, with CALM entry where it passes (R178). -/
def Obligations.UnbracedReturnsTheHold : Prop :=
  ∀ (f : Frame) (robot : Byte) (k : RobotId) (s : State), Taken .unbraced f s → robot.toNat = k.val →
    let z := s.blk.robot k
    let answer := fun c : Code => exec (.unbraced f robot) s = .next (answered .unbraced f { code := c } s)
    let released := fun (m : RobotMode) (l : Location) (w : Robot) =>
      { w with
        mode := if w.faultPending then .faulted else m, location := l, faultPending := false
        order := if w.order = .unbrace then .none else w.order }
    let ends := fun c : Block => exec (.unbraced f robot) s = .next { answered .unbraced f { code := .ok } s with blk := c }
    let after := fun c : Block =>
      (s.blk.storm = false → c.ThenTested s.env ends)
        ∧ (s.blk.storm = true → ∀ d, PassMade s.env none c d → ends d)
    (z.mode ≠ .braced → answer .state)
    ∧ (∀ c, z.mode = .braced → (∀ r, (s.blk.row r).holder ≠ some k) →
        ComesToRest s.env none k (s.blk.modRobot k (released .idle z.location)) c → after c)
    ∧ ∀ r, z.mode = .braced → (s.blk.row r).holder = some k → (∀ r', (s.blk.row r').holder = some k → r' = r) →
        ((s.blk.row r).tracker = .stowed → answer .state)
        ∧ ((s.blk.row r).tracker ≠ .stowed →
            after ((s.blk.modRow r fun x =>
                { x with tracker := if x.tracker = .stowReleased then .held else x.tracker }).modRobot k
              (released .onRow (.onRow r))))

/-- PARK_DEADLINE_EXPIRY (R172): the deadline-passed flag is set, the park waits are cleared, and every enrolled robot holding a PARK
task that is neither at a cradle, nor in a garage, nor BRACED is taken by its place: told to brace at a row end, told to brace with
its row STRANDED on a surface, and told to attend on a shuttle or at UNKNOWN; each is UNPARKED. Said where none of these robots has
a transfer. Where the entry is not due nothing happens (the model's choice, log entry 2). -/
def Obligations.ParkDeadlineOrdersBrace : Prop :=
  ∀ s : State, s.inReset = false →
    (s.blk.expires s.env .parkDeadline = false → exec .parkDeadlineExpiry s = .next s)
    ∧ (s.blk.expires s.env .parkDeadline = true →
        (∀ k, RobotTask.park ∈ (s.blk.robot k).stack → (s.blk.robot k).transfer = none) →
        let late := fun z : Robot => z.mode ≠ .absent ∧ RobotTask.park ∈ z.stack ∧ z.mode ≠ .braced
          ∧ ¬ (∃ r, z.location = .rowEnd r ∧ (s.env.row r).cradle = true)
          ∧ ¬ (∃ u, z.location = .carried u ∧ z.inGarage = true)
        let atEnd := fun z : Robot => (z.mode = .idle ∨ z.mode = .waitHold ∨ z.mode = .faulted) ∧ ∃ r, z.location = .rowEnd r
        let riding := fun (z : Robot) (r : RowId) => (z.mode = .onRow ∨ z.mode = .faulted) ∧ z.location = .onRow r
        let adrift := fun z : Robot => (∃ u, z.location = .carried u) ∨ z.location = .unknown
        ∃ b, exec .parkDeadlineExpiry s = .next { s with blk := b }
          ∧ b = { s.blk.cancel .parkDeadline with deadlinePassed := true, rows := b.rows, robots := b.robots }
          ∧ (∀ k,
              let z := s.blk.robot k
              let told := late z ∧ (atEnd z ∨ (∃ r, riding z r) ∨ adrift z)
              b.robot k = { z with
                parkWait := false
                order := if told then (if adrift z then .attend else .brace) else z.order
                standing := if told then .unparked else z.standing
                outcome := if told ∧ z.standing ≠ .unparked then .noPark else z.outcome })
          ∧ ∀ r, b.row r =
              if ∃ k, late (s.blk.robot k) ∧ riding (s.blk.robot k) r then { s.blk.row r with stranded := true, cls := 0 }
              else s.blk.row r)

/-- CALM_HOLDOFF_EXPIRY (R165). In WATCH the state becomes CALM (R178): every standing becomes NONE, PARK tasks are popped with
the task beneath given the robot, paused rounds are handed their robots, and a robot in a garage is ordered ATTEND. In PARK or
STOW it becomes RECOVER (R176): STOWD is released, PARK_DEADLINE is cancelled, STOWED rows are to be unstowed, released rows
with no holder are resumed, every present row is marked RESTART and BRACED robots are ordered UNBRACE; where the test of R177
passes at once, CALM is entered in the same event. Said of a CALM entry, from RECOVER as from WATCH, that gives one robot alone a
task: a round under its PARK task, or paused on top, claims its next entry where that is its own row (R59, R105, R110), and
a charge under its PARK task is taken at a cradle by the pop test or the charge plan (R57, R58). Where the entry is not due
nothing happens (the model's choice, log entry 2). -/
def Obligations.CalmHoldoffEndsTheWeather : Prop :=
  ∀ s : State, s.inReset = false →
    let e := s.env
    let ends := fun c : Block => exec .calmHoldoffExpiry s = .next { s with blk := c }
    let due := s.blk.expires e .calmHoldoff = true
    let calms := fun b : Block =>
      (∀ c, CalmEntered e b c → ends c)
      ∧ ((∀ k, (b.robot k).CalmsAlone) → ends b.calmed)
      ∧ ∀ k p, (∀ j, j ≠ k → (b.robot j).CalmsAlone) → (b.robot k).IdleAt p →
          (∀ rd before x after,
            ((b.robot k).stack = [.park, .round rd] ∨ ((b.robot k).stack = [.round rd] ∧ rd.paused = true)) →
            rd.entries = before ++ x :: after → (∀ y ∈ rd.entries, y.state ≠ .active) → (∀ y ∈ before, ¬ y.Open) →
            x.state = .pending → x.row = p → (∀ y ∈ before ++ after, y.row ≠ p) →
            let w := b.row p
            w.locked = none → w.stranded = false → w.faultNoted = false → w.tracker = .tracking → w.holder = none →
            (w.reservedBy = none ∨ w.reservedBy = some k) →
              let rd' : Round :=
                { rd with paused := false, entries := before ++ { x with state := .active, entered := false } :: after }
              ends
                (((b.calmed.modRow p fun y =>
                    { y with holder := some k, tracker := .holdPending, resumeWanted := false }).modRobot k fun z =>
                  { z with mode := .waitHold, stack := [.round rd'] }).arm e (.holdConfirm k) e.params.confirmTimeout))
          ∧ ((b.robot k).stack = [.park, .charge] → (e.row p).cradle = true →
              let full := e.params.resumeLevel ≤ (b.robot k).battery
              ends (b.calmed.modRobot k fun z =>
                { z with stack := if full then [] else [.charge], chargeWait := if full then z.chargeWait else false }))
    let b := s.blk.cancel .calmHoldoff
    let recover := b.recoverEntered e
    (¬ due → exec .calmHoldoffExpiry s = .next s)
    ∧ (due → s.blk.weather = .watch → calms b)
    ∧ (due → (s.blk.weather = .park ∨ s.blk.weather = .stow) →
        (¬ recover.LeavesRecover e → ends recover) ∧ (recover.LeavesRecover e → calms recover))

/-! ## Laws of the machine, kept by every step -/

/-- No step leads from mast records in range to one out of range: the fields of R151, the running sum as the exact sum of the ring,
the gust as the largest speed of its window, and a FAULTED mast with nothing entered (R156, R157). Every step keeps STOWD
asserted in STOW and released in every other weather state (R162, R175, R176). -/
def Obligations.MastsAndStowdStayAgreed : Prop :=
  (∀ s t : State, s.MastsInRange → step s = .next t → t.MastsInRange)
  ∧ (∀ s t : State, s.blk.StowdAgrees → step s = .next t → t.blk.StowdAgrees)

/-- Every step keeps the parameters (R188), the rows' figures with the smoothed shortfall at most the smoothed expected output
(R1, R8, R126) and the report records (R116) in their ranges. Every step keeps the totals and counts of both banks in their
ranges (R137, R140). -/
def Obligations.FiguresStayInRange : Prop :=
  (∀ s t : State, s.FiguresInRange → step s = .next t → t.FiguresInRange)
  ∧ (∀ s t : State, s.BanksInRange → step s = .next t → t.BanksInRange)

/-- R141: no command lowers an accumulator of a row, or a total of the LIVE bank, but one that sets it to zero: CLEAN_DONE of the row,
MAP_BAY of its bay, RESET_ACCOUNTS, POWER_ON, and for the bank CLOSE_PERIOD; and the totals of the CLOSED bank change at CLOSE_PERIOD,
RESET_ACCOUNTS and POWER_ON only, the first giving it those of LIVE. -/
def Obligations.NoAccumulatorDecreases : Prop :=
  ∀ (c : Instr) (s t : State), s.FiguresInRange → s.BanksInRange → exec c s = .next t →
    let reset := c = .powerOn ∨ ∃ f, c = .resetAccounts f
    let close := ∃ f, c = .closePeriod f
    (∀ r : RowId,
      ((s.env.row r).loss ≤ (t.env.row r).loss ∧ (s.env.row r).recovered ≤ (t.env.row r).recovered)
        ∨ ((t.env.row r).loss = 0 ∧ (t.env.row r).recovered = 0
          ∧ (reset ∨ (∃ f bay es, c = .mapBay f bay es ∧ bay.toNat = r.val / 16)
            ∨ ∃ f robot k, c = .cleanDone f robot ∧ robot.toNat = k.val ∧ (s.blk.robot k).location = .onRow r)))
    ∧ ((s.live.loss ≤ t.live.loss ∧ s.live.gain ≤ t.live.gain ∧ s.live.recovered ≤ t.live.recovered
          ∧ s.live.holdCost ≤ t.live.holdCost ∧ s.live.stormSeconds ≤ t.live.stormSeconds
          ∧ s.live.reports ≤ t.live.reports ∧ s.live.lowLight ≤ t.live.lowLight)
        ∨ ((reset ∨ close) ∧ t.live.loss = 0 ∧ t.live.gain = 0 ∧ t.live.recovered = 0 ∧ t.live.holdCost = 0
          ∧ t.live.stormSeconds = 0 ∧ t.live.reports = 0 ∧ t.live.lowLight = 0))
    ∧ (t.closed.bank = s.closed.bank ∨ (close ∧ t.closed.bank = s.live)
        ∨ (reset ∧ t.closed.bank.loss = 0 ∧ t.closed.bank.gain = 0 ∧ t.closed.bank.recovered = 0
          ∧ t.closed.bank.holdCost = 0 ∧ t.closed.bank.stormSeconds = 0 ∧ t.closed.bank.reports = 0
          ∧ t.closed.bank.lowLight = 0))

/-- Every step keeps a row that is LOCKED, STRANDED or tracker-FAULTED in urgency map 0 (R96), and RESUME_WANTED on TRACKING rows only
(R36). -/
def Obligations.MarksStayAgreed : Prop :=
  ∀ s t : State, s.blk.MarksAgree → step s = .next t → t.blk.MarksAgree

/-- Every step keeps at most one deadline entry of each kind and key, and at most one of a robot's two kinds (R15); a FAULTED
link with nothing in flight and nothing pending (R84, R85); a FAULTED or OFFLINE shuttle with no poll due and nothing pending,
so that it is neither polled nor commanded (R64); at most 8 records in a shuttle's queue and no tag in use twice (R62); and
the replies and the reservations of every port within its 4 places (R119, R184). -/
def Obligations.ListsAndQueuesStayInRange : Prop :=
  (∀ s t : State, s.blk.KeysDistinct → step s = .next t → t.blk.KeysDistinct)
  ∧ (∀ s t : State, s.blk.LinkAgrees → step s = .next t → t.blk.LinkAgrees)
  ∧ (∀ s t : State, s.blk.DownAreSilent → step s = .next t → t.blk.DownAreSilent)
  ∧ (∀ s t : State, s.blk.TransfersInRange → step s = .next t → t.blk.TransfersInRange)
  ∧ (∀ s t : State, s.PlacesInRange → step s = .next t → t.PlacesInRange)

/-- Every step keeps the claim laws of R4 and R21, with the records of R62 and R63 that they rest on: the holder of a row
stands at that row's end while the hold is pending and rides its surface otherwise, a robot on the surface of a row is its
holder with the hold confirmed (R43), no robot holds two rows, and a row is STOW_RELEASED or STOWED only with no holder or a
BRACED one. Said of every command but a BRACED of a robot that has a transfer: R173 lets a FAULTED one at a row end brace,
after which R174 may leave it IDLE with that transfer (log entry 35). -/
def Obligations.ClaimsStayAgreed : Prop :=
  ∀ s t : State, s.blk.HoldsAgree s.env → s.blk.RecordsAgree s.env → step s = .next t →
    (∀ f robot (k : RobotId), s.pending.head? = some (.braced f robot) → robot.toNat = k.val →
      (s.blk.robot k).transfer = none) →
      t.blk.HoldsAgree t.env ∧ t.blk.RecordsAgree t.env
        ∧ ∀ r r' k, (t.blk.row r).holder = some k → (t.blk.row r').holder = some k → r = r'

/-- The state after reset meets every law that the steps keep. -/
def Obligations.ResetMeetsTheLaws : Prop :=
  State.reset.MastsInRange ∧ State.reset.FiguresInRange ∧ State.reset.BanksInRange ∧ State.reset.blk.MarksAgree
    ∧ State.reset.blk.KeysDistinct ∧ State.reset.blk.LinkAgrees ∧ State.reset.blk.DownAreSilent
    ∧ State.reset.blk.TransfersInRange ∧ State.reset.PlacesInRange ∧ State.reset.blk.StowdAgrees
    ∧ State.reset.blk.HoldsAgree State.reset.env ∧ State.reset.blk.RecordsAgree State.reset.env
end

