-- ==== Sys2Proof/Laws/State.lean ====
section
/-! SUPPORT. One lemma per field per update of the state's records, so that no later proof unfolds a record update. -/

namespace Sys2Proof.Machine

open Sys2Proof

/-! ## Tables -/

theorem modifyAt_get {α : Type} {n : Nat} (t : Vector α n) (i : Fin n) (g : α → α) (j : Fin n) :
    (modifyAt t i g)[j] = if i = j then g t[i] else t[j] := by
  simp [modifyAt, Vector.getElem_set, Fin.ext_iff]

theorem mapAll_get {α : Type} {n : Nat} (t : Vector α n) (g : Fin n → α → α) (j : Fin n) : (mapAll t g)[j] = g j t[j] := by
  simp [mapAll]

@[simp] theorem Env.row_modRow (e : Env) (r : RowId) (g : RowData → RowData) (x : RowId) :
    (e.modRow r g).row x = if r = x then g (e.row r) else e.row x := modifyAt_get e.data r g x
@[simp] theorem Env.modRow_now (e : Env) (r : RowId) (g : RowData → RowData) : (e.modRow r g).now = e.now := rfl
@[simp] theorem Env.modRow_params (e : Env) (r : RowId) (g : RowData → RowData) : (e.modRow r g).params = e.params := rfl

@[simp] theorem Block.row_modRow (b : Block) (r : RowId) (g : RowState → RowState) (x : RowId) :
    (b.modRow r g).row x = if r = x then g (b.row r) else b.row x := modifyAt_get b.rows r g x
@[simp] theorem Block.robot_modRobot (b : Block) (k : RobotId) (g : Robot → Robot) (x : RobotId) :
    (b.modRobot k g).robot x = if k = x then g (b.robot k) else b.robot x := modifyAt_get b.robots k g x
@[simp] theorem Block.shuttle_modShuttle (b : Block) (s : ShuttleId) (g : Shuttle → Shuttle) (x : ShuttleId) :
    (b.modShuttle s g).shuttle x = if s = x then g (b.shuttle s) else b.shuttle x := modifyAt_get b.shuttles s g x
@[simp] theorem Block.row_mapRows (b : Block) (g : RowId → RowState → RowState) (x : RowId) :
    (b.mapRows g).row x = g x (b.row x) := mapAll_get b.rows g x
@[simp] theorem Block.robot_mapRobots (b : Block) (g : RobotId → Robot → Robot) (x : RobotId) :
    (b.mapRobots g).robot x = g x (b.robot x) := mapAll_get b.robots g x

/-! ## The block -/

@[simp] theorem Block.modRow_deadlines (b : Block) (r : RowId) (g : RowState → RowState) : (b.modRow r g).deadlines = b.deadlines := rfl
@[simp] theorem Block.modRow_robots (b : Block) (r : RowId) (g : RowState → RowState) : (b.modRow r g).robots = b.robots := rfl
@[simp] theorem Block.modRow_shuttles (b : Block) (r : RowId) (g : RowState → RowState) : (b.modRow r g).shuttles = b.shuttles := rfl
@[simp] theorem Block.modRow_link (b : Block) (r : RowId) (g : RowState → RowState) : (b.modRow r g).link = b.link := rfl
@[simp] theorem Block.modRow_weather (b : Block) (r : RowId) (g : RowState → RowState) : (b.modRow r g).weather = b.weather := rfl
@[simp] theorem Block.modRow_level (b : Block) (r : RowId) (g : RowState → RowState) : (b.modRow r g).level = b.level := rfl
@[simp] theorem Block.modRow_stowd (b : Block) (r : RowId) (g : RowState → RowState) : (b.modRow r g).stowd = b.stowd := rfl
@[simp] theorem Block.modRow_deadlinePassed (b : Block) (r : RowId) (g : RowState → RowState) : (b.modRow r g).deadlinePassed = b.deadlinePassed := rfl
@[simp] theorem Block.modRow_weatherChanged (b : Block) (r : RowId) (g : RowState → RowState) : (b.modRow r g).weatherChanged = b.weatherChanged := rfl
@[simp] theorem Block.modRow_linkFaultItem (b : Block) (r : RowId) (g : RowState → RowState) : (b.modRow r g).linkFaultItem = b.linkFaultItem := rfl
@[simp] theorem Block.modRow_robot (b : Block) (r : RowId) (g : RowState → RowState) (x : RobotId) : (b.modRow r g).robot x = b.robot x := rfl
@[simp] theorem Block.modRow_shuttle (b : Block) (r : RowId) (g : RowState → RowState) (x : ShuttleId) : (b.modRow r g).shuttle x = b.shuttle x := rfl

@[simp] theorem Block.modRobot_deadlines (b : Block) (k : RobotId) (g : Robot → Robot) : (b.modRobot k g).deadlines = b.deadlines := rfl
@[simp] theorem Block.modRobot_rows (b : Block) (k : RobotId) (g : Robot → Robot) : (b.modRobot k g).rows = b.rows := rfl
@[simp] theorem Block.modRobot_shuttles (b : Block) (k : RobotId) (g : Robot → Robot) : (b.modRobot k g).shuttles = b.shuttles := rfl
@[simp] theorem Block.modRobot_link (b : Block) (k : RobotId) (g : Robot → Robot) : (b.modRobot k g).link = b.link := rfl
@[simp] theorem Block.modRobot_weather (b : Block) (k : RobotId) (g : Robot → Robot) : (b.modRobot k g).weather = b.weather := rfl
@[simp] theorem Block.modRobot_level (b : Block) (k : RobotId) (g : Robot → Robot) : (b.modRobot k g).level = b.level := rfl
@[simp] theorem Block.modRobot_stowd (b : Block) (k : RobotId) (g : Robot → Robot) : (b.modRobot k g).stowd = b.stowd := rfl
@[simp] theorem Block.modRobot_deadlinePassed (b : Block) (k : RobotId) (g : Robot → Robot) : (b.modRobot k g).deadlinePassed = b.deadlinePassed := rfl
@[simp] theorem Block.modRobot_weatherChanged (b : Block) (k : RobotId) (g : Robot → Robot) : (b.modRobot k g).weatherChanged = b.weatherChanged := rfl
@[simp] theorem Block.modRobot_linkFaultItem (b : Block) (k : RobotId) (g : Robot → Robot) : (b.modRobot k g).linkFaultItem = b.linkFaultItem := rfl
@[simp] theorem Block.modRobot_row (b : Block) (k : RobotId) (g : Robot → Robot) (x : RowId) : (b.modRobot k g).row x = b.row x := rfl
@[simp] theorem Block.modRobot_shuttle (b : Block) (k : RobotId) (g : Robot → Robot) (x : ShuttleId) : (b.modRobot k g).shuttle x = b.shuttle x := rfl

@[simp] theorem Block.modShuttle_deadlines (b : Block) (s : ShuttleId) (g : Shuttle → Shuttle) : (b.modShuttle s g).deadlines = b.deadlines := rfl
@[simp] theorem Block.modShuttle_rows (b : Block) (s : ShuttleId) (g : Shuttle → Shuttle) : (b.modShuttle s g).rows = b.rows := rfl
@[simp] theorem Block.modShuttle_robots (b : Block) (s : ShuttleId) (g : Shuttle → Shuttle) : (b.modShuttle s g).robots = b.robots := rfl
@[simp] theorem Block.modShuttle_link (b : Block) (s : ShuttleId) (g : Shuttle → Shuttle) : (b.modShuttle s g).link = b.link := rfl
@[simp] theorem Block.modShuttle_weather (b : Block) (s : ShuttleId) (g : Shuttle → Shuttle) : (b.modShuttle s g).weather = b.weather := rfl
@[simp] theorem Block.modShuttle_level (b : Block) (s : ShuttleId) (g : Shuttle → Shuttle) : (b.modShuttle s g).level = b.level := rfl
@[simp] theorem Block.modShuttle_stowd (b : Block) (s : ShuttleId) (g : Shuttle → Shuttle) : (b.modShuttle s g).stowd = b.stowd := rfl
@[simp] theorem Block.modShuttle_deadlinePassed (b : Block) (s : ShuttleId) (g : Shuttle → Shuttle) : (b.modShuttle s g).deadlinePassed = b.deadlinePassed := rfl
@[simp] theorem Block.modShuttle_weatherChanged (b : Block) (s : ShuttleId) (g : Shuttle → Shuttle) : (b.modShuttle s g).weatherChanged = b.weatherChanged := rfl
@[simp] theorem Block.modShuttle_linkFaultItem (b : Block) (s : ShuttleId) (g : Shuttle → Shuttle) : (b.modShuttle s g).linkFaultItem = b.linkFaultItem := rfl
@[simp] theorem Block.modShuttle_row (b : Block) (s : ShuttleId) (g : Shuttle → Shuttle) (x : RowId) : (b.modShuttle s g).row x = b.row x := rfl
@[simp] theorem Block.modShuttle_robot (b : Block) (s : ShuttleId) (g : Shuttle → Shuttle) (x : RobotId) : (b.modShuttle s g).robot x = b.robot x := rfl

@[simp] theorem Block.mapRows_deadlines (b : Block) (g : RowId → RowState → RowState) : (b.mapRows g).deadlines = b.deadlines := rfl
@[simp] theorem Block.mapRows_robots (b : Block) (g : RowId → RowState → RowState) : (b.mapRows g).robots = b.robots := rfl
@[simp] theorem Block.mapRows_shuttles (b : Block) (g : RowId → RowState → RowState) : (b.mapRows g).shuttles = b.shuttles := rfl
@[simp] theorem Block.mapRows_link (b : Block) (g : RowId → RowState → RowState) : (b.mapRows g).link = b.link := rfl
@[simp] theorem Block.mapRows_weather (b : Block) (g : RowId → RowState → RowState) : (b.mapRows g).weather = b.weather := rfl
@[simp] theorem Block.mapRows_level (b : Block) (g : RowId → RowState → RowState) : (b.mapRows g).level = b.level := rfl
@[simp] theorem Block.mapRows_stowd (b : Block) (g : RowId → RowState → RowState) : (b.mapRows g).stowd = b.stowd := rfl
@[simp] theorem Block.mapRows_deadlinePassed (b : Block) (g : RowId → RowState → RowState) : (b.mapRows g).deadlinePassed = b.deadlinePassed := rfl
@[simp] theorem Block.mapRows_weatherChanged (b : Block) (g : RowId → RowState → RowState) : (b.mapRows g).weatherChanged = b.weatherChanged := rfl
@[simp] theorem Block.mapRows_linkFaultItem (b : Block) (g : RowId → RowState → RowState) : (b.mapRows g).linkFaultItem = b.linkFaultItem := rfl
@[simp] theorem Block.mapRows_robot (b : Block) (g : RowId → RowState → RowState) (x : RobotId) : (b.mapRows g).robot x = b.robot x := rfl
@[simp] theorem Block.mapRows_shuttle (b : Block) (g : RowId → RowState → RowState) (x : ShuttleId) : (b.mapRows g).shuttle x = b.shuttle x := rfl

@[simp] theorem Block.mapRobots_deadlines (b : Block) (g : RobotId → Robot → Robot) : (b.mapRobots g).deadlines = b.deadlines := rfl
@[simp] theorem Block.mapRobots_rows (b : Block) (g : RobotId → Robot → Robot) : (b.mapRobots g).rows = b.rows := rfl
@[simp] theorem Block.mapRobots_shuttles (b : Block) (g : RobotId → Robot → Robot) : (b.mapRobots g).shuttles = b.shuttles := rfl
@[simp] theorem Block.mapRobots_link (b : Block) (g : RobotId → Robot → Robot) : (b.mapRobots g).link = b.link := rfl
@[simp] theorem Block.mapRobots_weather (b : Block) (g : RobotId → Robot → Robot) : (b.mapRobots g).weather = b.weather := rfl
@[simp] theorem Block.mapRobots_level (b : Block) (g : RobotId → Robot → Robot) : (b.mapRobots g).level = b.level := rfl
@[simp] theorem Block.mapRobots_stowd (b : Block) (g : RobotId → Robot → Robot) : (b.mapRobots g).stowd = b.stowd := rfl
@[simp] theorem Block.mapRobots_deadlinePassed (b : Block) (g : RobotId → Robot → Robot) : (b.mapRobots g).deadlinePassed = b.deadlinePassed := rfl
@[simp] theorem Block.mapRobots_weatherChanged (b : Block) (g : RobotId → Robot → Robot) : (b.mapRobots g).weatherChanged = b.weatherChanged := rfl
@[simp] theorem Block.mapRobots_linkFaultItem (b : Block) (g : RobotId → Robot → Robot) : (b.mapRobots g).linkFaultItem = b.linkFaultItem := rfl
@[simp] theorem Block.mapRobots_row (b : Block) (g : RobotId → Robot → Robot) (x : RowId) : (b.mapRobots g).row x = b.row x := rfl
@[simp] theorem Block.mapRobots_shuttle (b : Block) (g : RobotId → Robot → Robot) (x : ShuttleId) : (b.mapRobots g).shuttle x = b.shuttle x := rfl

@[simp] theorem Block.cancel_rows (b : Block) (k : DeadlineKind) : (b.cancel k).rows = b.rows := rfl
@[simp] theorem Block.cancel_robots (b : Block) (k : DeadlineKind) : (b.cancel k).robots = b.robots := rfl
@[simp] theorem Block.cancel_shuttles (b : Block) (k : DeadlineKind) : (b.cancel k).shuttles = b.shuttles := rfl
@[simp] theorem Block.cancel_link (b : Block) (k : DeadlineKind) : (b.cancel k).link = b.link := rfl
@[simp] theorem Block.cancel_weather (b : Block) (k : DeadlineKind) : (b.cancel k).weather = b.weather := rfl
@[simp] theorem Block.cancel_level (b : Block) (k : DeadlineKind) : (b.cancel k).level = b.level := rfl
@[simp] theorem Block.cancel_stowd (b : Block) (k : DeadlineKind) : (b.cancel k).stowd = b.stowd := rfl
@[simp] theorem Block.cancel_deadlinePassed (b : Block) (k : DeadlineKind) : (b.cancel k).deadlinePassed = b.deadlinePassed := rfl
@[simp] theorem Block.cancel_weatherChanged (b : Block) (k : DeadlineKind) : (b.cancel k).weatherChanged = b.weatherChanged := rfl
@[simp] theorem Block.cancel_linkFaultItem (b : Block) (k : DeadlineKind) : (b.cancel k).linkFaultItem = b.linkFaultItem := rfl
@[simp] theorem Block.cancel_row (b : Block) (k : DeadlineKind) (x : RowId) : (b.cancel k).row x = b.row x := rfl
@[simp] theorem Block.cancel_robot (b : Block) (k : DeadlineKind) (x : RobotId) : (b.cancel k).robot x = b.robot x := rfl
@[simp] theorem Block.cancel_shuttle (b : Block) (k : DeadlineKind) (x : ShuttleId) : (b.cancel k).shuttle x = b.shuttle x := rfl

@[simp] theorem Block.withdrawLink_deadlines (b : Block) (s : ShuttleId) : (b.withdrawLink s).deadlines = b.deadlines := rfl
@[simp] theorem Block.withdrawLink_rows (b : Block) (s : ShuttleId) : (b.withdrawLink s).rows = b.rows := rfl
@[simp] theorem Block.withdrawLink_robots (b : Block) (s : ShuttleId) : (b.withdrawLink s).robots = b.robots := rfl
@[simp] theorem Block.withdrawLink_shuttles (b : Block) (s : ShuttleId) : (b.withdrawLink s).shuttles = b.shuttles := rfl
@[simp] theorem Block.withdrawLink_weather (b : Block) (s : ShuttleId) : (b.withdrawLink s).weather = b.weather := rfl
@[simp] theorem Block.withdrawLink_level (b : Block) (s : ShuttleId) : (b.withdrawLink s).level = b.level := rfl
@[simp] theorem Block.withdrawLink_stowd (b : Block) (s : ShuttleId) : (b.withdrawLink s).stowd = b.stowd := rfl
@[simp] theorem Block.withdrawLink_deadlinePassed (b : Block) (s : ShuttleId) : (b.withdrawLink s).deadlinePassed = b.deadlinePassed := rfl
@[simp] theorem Block.withdrawLink_weatherChanged (b : Block) (s : ShuttleId) : (b.withdrawLink s).weatherChanged = b.weatherChanged := rfl
@[simp] theorem Block.withdrawLink_linkFaultItem (b : Block) (s : ShuttleId) : (b.withdrawLink s).linkFaultItem = b.linkFaultItem := rfl
@[simp] theorem Block.withdrawLink_row (b : Block) (s : ShuttleId) (x : RowId) : (b.withdrawLink s).row x = b.row x := rfl
@[simp] theorem Block.withdrawLink_robot (b : Block) (s : ShuttleId) (x : RobotId) : (b.withdrawLink s).robot x = b.robot x := rfl
@[simp] theorem Block.withdrawLink_shuttle (b : Block) (s : ShuttleId) (x : ShuttleId) : (b.withdrawLink s).shuttle x = b.shuttle x := rfl

@[simp] theorem Block.setWeather_deadlines (b : Block) (w : Weather) : (b.setWeather w).deadlines = b.deadlines := rfl
@[simp] theorem Block.setWeather_rows (b : Block) (w : Weather) : (b.setWeather w).rows = b.rows := rfl
@[simp] theorem Block.setWeather_robots (b : Block) (w : Weather) : (b.setWeather w).robots = b.robots := rfl
@[simp] theorem Block.setWeather_shuttles (b : Block) (w : Weather) : (b.setWeather w).shuttles = b.shuttles := rfl
@[simp] theorem Block.setWeather_link (b : Block) (w : Weather) : (b.setWeather w).link = b.link := rfl
@[simp] theorem Block.setWeather_level (b : Block) (w : Weather) : (b.setWeather w).level = b.level := rfl
@[simp] theorem Block.setWeather_stowd (b : Block) (w : Weather) : (b.setWeather w).stowd = b.stowd := rfl
@[simp] theorem Block.setWeather_deadlinePassed (b : Block) (w : Weather) : (b.setWeather w).deadlinePassed = b.deadlinePassed := rfl
@[simp] theorem Block.setWeather_linkFaultItem (b : Block) (w : Weather) : (b.setWeather w).linkFaultItem = b.linkFaultItem := rfl
@[simp] theorem Block.setWeather_row (b : Block) (w : Weather) (x : RowId) : (b.setWeather w).row x = b.row x := rfl
@[simp] theorem Block.setWeather_robot (b : Block) (w : Weather) (x : RobotId) : (b.setWeather w).robot x = b.robot x := rfl
@[simp] theorem Block.setWeather_shuttle (b : Block) (w : Weather) (x : ShuttleId) : (b.setWeather w).shuttle x = b.shuttle x := rfl

@[simp] theorem Block.arm_rows (b : Block) (e : Env) (k : DeadlineKind) (d : Nat) : (b.arm e k d).rows = b.rows := rfl
@[simp] theorem Block.arm_robots (b : Block) (e : Env) (k : DeadlineKind) (d : Nat) : (b.arm e k d).robots = b.robots := rfl
@[simp] theorem Block.arm_shuttles (b : Block) (e : Env) (k : DeadlineKind) (d : Nat) : (b.arm e k d).shuttles = b.shuttles := rfl
@[simp] theorem Block.arm_link (b : Block) (e : Env) (k : DeadlineKind) (d : Nat) : (b.arm e k d).link = b.link := rfl
@[simp] theorem Block.arm_weather (b : Block) (e : Env) (k : DeadlineKind) (d : Nat) : (b.arm e k d).weather = b.weather := rfl
@[simp] theorem Block.arm_level (b : Block) (e : Env) (k : DeadlineKind) (d : Nat) : (b.arm e k d).level = b.level := rfl
@[simp] theorem Block.arm_stowd (b : Block) (e : Env) (k : DeadlineKind) (d : Nat) : (b.arm e k d).stowd = b.stowd := rfl
@[simp] theorem Block.arm_deadlinePassed (b : Block) (e : Env) (k : DeadlineKind) (d : Nat) : (b.arm e k d).deadlinePassed = b.deadlinePassed := rfl
@[simp] theorem Block.arm_weatherChanged (b : Block) (e : Env) (k : DeadlineKind) (d : Nat) : (b.arm e k d).weatherChanged = b.weatherChanged := rfl
@[simp] theorem Block.arm_linkFaultItem (b : Block) (e : Env) (k : DeadlineKind) (d : Nat) : (b.arm e k d).linkFaultItem = b.linkFaultItem := rfl
@[simp] theorem Block.arm_row (b : Block) (e : Env) (k : DeadlineKind) (d : Nat) (x : RowId) : (b.arm e k d).row x = b.row x := rfl
@[simp] theorem Block.arm_robot (b : Block) (e : Env) (k : DeadlineKind) (d : Nat) (x : RobotId) : (b.arm e k d).robot x = b.robot x := rfl
@[simp] theorem Block.arm_shuttle (b : Block) (e : Env) (k : DeadlineKind) (d : Nat) (x : ShuttleId) : (b.arm e k d).shuttle x = b.shuttle x := rfl

@[simp] theorem Block.placeLink_deadlines (b : Block) (s : ShuttleId) (op : LinkOp) (c : Bool) :
    (b.placeLink s op c).deadlines = b.deadlines := by unfold Block.placeLink; split <;> rfl
@[simp] theorem Block.placeLink_rows (b : Block) (s : ShuttleId) (op : LinkOp) (c : Bool) :
    (b.placeLink s op c).rows = b.rows := by unfold Block.placeLink; split <;> rfl
@[simp] theorem Block.placeLink_robots (b : Block) (s : ShuttleId) (op : LinkOp) (c : Bool) :
    (b.placeLink s op c).robots = b.robots := by unfold Block.placeLink; split <;> rfl
@[simp] theorem Block.placeLink_shuttles (b : Block) (s : ShuttleId) (op : LinkOp) (c : Bool) :
    (b.placeLink s op c).shuttles = b.shuttles := by unfold Block.placeLink; split <;> rfl
@[simp] theorem Block.placeLink_weather (b : Block) (s : ShuttleId) (op : LinkOp) (c : Bool) :
    (b.placeLink s op c).weather = b.weather := by unfold Block.placeLink; split <;> rfl
@[simp] theorem Block.placeLink_level (b : Block) (s : ShuttleId) (op : LinkOp) (c : Bool) :
    (b.placeLink s op c).level = b.level := by unfold Block.placeLink; split <;> rfl
@[simp] theorem Block.placeLink_stowd (b : Block) (s : ShuttleId) (op : LinkOp) (c : Bool) :
    (b.placeLink s op c).stowd = b.stowd := by unfold Block.placeLink; split <;> rfl
@[simp] theorem Block.placeLink_deadlinePassed (b : Block) (s : ShuttleId) (op : LinkOp) (c : Bool) :
    (b.placeLink s op c).deadlinePassed = b.deadlinePassed := by unfold Block.placeLink; split <;> rfl
@[simp] theorem Block.placeLink_weatherChanged (b : Block) (s : ShuttleId) (op : LinkOp) (c : Bool) :
    (b.placeLink s op c).weatherChanged = b.weatherChanged := by unfold Block.placeLink; split <;> rfl
@[simp] theorem Block.placeLink_linkFaultItem (b : Block) (s : ShuttleId) (op : LinkOp) (c : Bool) :
    (b.placeLink s op c).linkFaultItem = b.linkFaultItem := by unfold Block.placeLink; split <;> rfl
@[simp] theorem Block.placeLink_row (b : Block) (s : ShuttleId) (op : LinkOp) (c : Bool) (x : RowId) :
    (b.placeLink s op c).row x = b.row x := by unfold Block.placeLink; split <;> rfl
@[simp] theorem Block.placeLink_robot (b : Block) (s : ShuttleId) (op : LinkOp) (c : Bool) (x : RobotId) :
    (b.placeLink s op c).robot x = b.robot x := by unfold Block.placeLink; split <;> rfl
@[simp] theorem Block.placeLink_shuttle (b : Block) (s : ShuttleId) (op : LinkOp) (c : Bool) (x : ShuttleId) :
    (b.placeLink s op c).shuttle x = b.shuttle x := by unfold Block.placeLink; split <;> rfl

/-! ## Ports -/

@[simp] theorem State.port_modPort (s : State) (p q : Port) (g : PortRec → PortRec) :
    (s.modPort p g).port q = if p = q then g (s.port p) else s.port q := by cases p <;> cases q <;> rfl

@[simp] theorem State.modPort_pending (s : State) (p : Port) (g : PortRec → PortRec) : (s.modPort p g).pending = s.pending := by
  cases p <;> rfl
@[simp] theorem State.modPort_inReset (s : State) (p : Port) (g : PortRec → PortRec) : (s.modPort p g).inReset = s.inReset := by
  cases p <;> rfl
@[simp] theorem State.modPort_contend (s : State) (p : Port) (g : PortRec → PortRec) : (s.modPort p g).contend = s.contend := by
  cases p <;> rfl
@[simp] theorem State.modPort_mapLoaded (s : State) (p : Port) (g : PortRec → PortRec) : (s.modPort p g).mapLoaded = s.mapLoaded := by
  cases p <;> rfl
@[simp] theorem State.modPort_env (s : State) (p : Port) (g : PortRec → PortRec) : (s.modPort p g).env = s.env := by
  cases p <;> rfl
@[simp] theorem State.modPort_blk (s : State) (p : Port) (g : PortRec → PortRec) : (s.modPort p g).blk = s.blk := by
  cases p <;> rfl
@[simp] theorem State.modPort_inFlight (s : State) (p : Port) (g : PortRec → PortRec) : (s.modPort p g).inFlight = s.inFlight := by
  cases p <;> rfl
@[simp] theorem State.modPort_waiting (s : State) (p : Port) (g : PortRec → PortRec) : (s.modPort p g).waiting = s.waiting := by
  cases p <;> rfl
@[simp] theorem State.modPort_live (s : State) (p : Port) (g : PortRec → PortRec) : (s.modPort p g).live = s.live := by
  cases p <;> rfl
@[simp] theorem State.modPort_closed (s : State) (p : Port) (g : PortRec → PortRec) : (s.modPort p g).closed = s.closed := by
  cases p <;> rfl
@[simp] theorem State.modPort_mastA (s : State) (p : Port) (g : PortRec → PortRec) : (s.modPort p g).mastA = s.mastA := by
  cases p <;> rfl
@[simp] theorem State.modPort_mastB (s : State) (p : Port) (g : PortRec → PortRec) : (s.modPort p g).mastB = s.mastB := by
  cases p <;> rfl
@[simp] theorem State.modPort_freeSeed (s : State) (p : Port) (g : PortRec → PortRec) : (s.modPort p g).freeSeed = s.freeSeed := by
  cases p <;> rfl

@[simp] theorem State.shiftStatus_pending (s : State) (p : Port) : (s.shiftStatus p).pending = s.pending := by
  simp [State.shiftStatus]
@[simp] theorem State.shiftStatus_inReset (s : State) (p : Port) : (s.shiftStatus p).inReset = s.inReset := by
  simp [State.shiftStatus]
@[simp] theorem State.shiftStatus_contend (s : State) (p : Port) : (s.shiftStatus p).contend = s.contend := by
  simp [State.shiftStatus]
@[simp] theorem State.shiftStatus_mapLoaded (s : State) (p : Port) : (s.shiftStatus p).mapLoaded = s.mapLoaded := by
  simp [State.shiftStatus]
@[simp] theorem State.shiftStatus_env (s : State) (p : Port) : (s.shiftStatus p).env = s.env := by
  simp [State.shiftStatus]
@[simp] theorem State.shiftStatus_blk (s : State) (p : Port) : (s.shiftStatus p).blk = s.blk := by
  simp [State.shiftStatus]
@[simp] theorem State.shiftStatus_inFlight (s : State) (p : Port) : (s.shiftStatus p).inFlight = s.inFlight := by
  simp [State.shiftStatus]
@[simp] theorem State.shiftStatus_waiting (s : State) (p : Port) : (s.shiftStatus p).waiting = s.waiting := by
  simp [State.shiftStatus]
@[simp] theorem State.shiftStatus_live (s : State) (p : Port) : (s.shiftStatus p).live = s.live := by
  simp [State.shiftStatus]
@[simp] theorem State.shiftStatus_closed (s : State) (p : Port) : (s.shiftStatus p).closed = s.closed := by
  simp [State.shiftStatus]
@[simp] theorem State.shiftStatus_mastA (s : State) (p : Port) : (s.shiftStatus p).mastA = s.mastA := by
  simp [State.shiftStatus]
@[simp] theorem State.shiftStatus_mastB (s : State) (p : Port) : (s.shiftStatus p).mastB = s.mastB := by
  simp [State.shiftStatus]
@[simp] theorem State.shiftStatus_freeSeed (s : State) (p : Port) : (s.shiftStatus p).freeSeed = s.freeSeed := by
  simp [State.shiftStatus]

@[simp] theorem State.frameBits_pending (s : State) (p : Port) (a b : Bool) : (s.frameBits p a b).pending = s.pending := by
  simp [State.frameBits]
@[simp] theorem State.frameBits_inReset (s : State) (p : Port) (a b : Bool) : (s.frameBits p a b).inReset = s.inReset := by
  simp [State.frameBits]
@[simp] theorem State.frameBits_contend (s : State) (p : Port) (a b : Bool) : (s.frameBits p a b).contend = s.contend := by
  simp [State.frameBits]
@[simp] theorem State.frameBits_mapLoaded (s : State) (p : Port) (a b : Bool) : (s.frameBits p a b).mapLoaded = s.mapLoaded := by
  simp [State.frameBits]
@[simp] theorem State.frameBits_env (s : State) (p : Port) (a b : Bool) : (s.frameBits p a b).env = s.env := by
  simp [State.frameBits]
@[simp] theorem State.frameBits_blk (s : State) (p : Port) (a b : Bool) : (s.frameBits p a b).blk = s.blk := by
  simp [State.frameBits]
@[simp] theorem State.frameBits_inFlight (s : State) (p : Port) (a b : Bool) : (s.frameBits p a b).inFlight = s.inFlight := by
  simp [State.frameBits]
@[simp] theorem State.frameBits_waiting (s : State) (p : Port) (a b : Bool) : (s.frameBits p a b).waiting = s.waiting := by
  simp [State.frameBits]
@[simp] theorem State.frameBits_live (s : State) (p : Port) (a b : Bool) : (s.frameBits p a b).live = s.live := by
  simp [State.frameBits]
@[simp] theorem State.frameBits_closed (s : State) (p : Port) (a b : Bool) : (s.frameBits p a b).closed = s.closed := by
  simp [State.frameBits]
@[simp] theorem State.frameBits_mastA (s : State) (p : Port) (a b : Bool) : (s.frameBits p a b).mastA = s.mastA := by
  simp [State.frameBits]
@[simp] theorem State.frameBits_mastB (s : State) (p : Port) (a b : Bool) : (s.frameBits p a b).mastB = s.mastB := by
  simp [State.frameBits]
@[simp] theorem State.frameBits_freeSeed (s : State) (p : Port) (a b : Bool) : (s.frameBits p a b).freeSeed = s.freeSeed := by
  simp [State.frameBits]

@[simp] theorem State.taken_pending (s : State) (f : Frame) : (s.taken f).pending = s.pending := by
  simp [State.taken, State.shiftStatus, State.frameBits]
@[simp] theorem State.taken_inReset (s : State) (f : Frame) : (s.taken f).inReset = s.inReset := by
  simp [State.taken, State.shiftStatus, State.frameBits]
@[simp] theorem State.taken_contend (s : State) (f : Frame) : (s.taken f).contend = s.contend := by
  simp [State.taken, State.shiftStatus, State.frameBits]
@[simp] theorem State.taken_mapLoaded (s : State) (f : Frame) : (s.taken f).mapLoaded = s.mapLoaded := by
  simp [State.taken, State.shiftStatus, State.frameBits]
@[simp] theorem State.taken_env (s : State) (f : Frame) : (s.taken f).env = s.env := by
  simp [State.taken, State.shiftStatus, State.frameBits]
@[simp] theorem State.taken_blk (s : State) (f : Frame) : (s.taken f).blk = s.blk := by
  simp [State.taken, State.shiftStatus, State.frameBits]
@[simp] theorem State.taken_inFlight (s : State) (f : Frame) : (s.taken f).inFlight = s.inFlight := by
  simp [State.taken, State.shiftStatus, State.frameBits]
@[simp] theorem State.taken_waiting (s : State) (f : Frame) : (s.taken f).waiting = s.waiting := by
  simp [State.taken, State.shiftStatus, State.frameBits]
@[simp] theorem State.taken_live (s : State) (f : Frame) : (s.taken f).live = s.live := by
  simp [State.taken, State.shiftStatus, State.frameBits]
@[simp] theorem State.taken_closed (s : State) (f : Frame) : (s.taken f).closed = s.closed := by
  simp [State.taken, State.shiftStatus, State.frameBits]
@[simp] theorem State.taken_mastA (s : State) (f : Frame) : (s.taken f).mastA = s.mastA := by
  simp [State.taken, State.shiftStatus, State.frameBits]
@[simp] theorem State.taken_mastB (s : State) (f : Frame) : (s.taken f).mastB = s.mastB := by
  simp [State.taken, State.shiftStatus, State.frameBits]
@[simp] theorem State.taken_freeSeed (s : State) (f : Frame) : (s.taken f).freeSeed = s.freeSeed := by
  simp [State.taken, State.shiftStatus, State.frameBits]

@[simp] theorem State.reply_pending (s : State) (f : Frame) (k : Byte) (a : Answer) : (s.reply f k a).pending = s.pending := by
  simp [State.reply]
@[simp] theorem State.reply_inReset (s : State) (f : Frame) (k : Byte) (a : Answer) : (s.reply f k a).inReset = s.inReset := by
  simp [State.reply]
@[simp] theorem State.reply_contend (s : State) (f : Frame) (k : Byte) (a : Answer) : (s.reply f k a).contend = s.contend := by
  simp [State.reply]
@[simp] theorem State.reply_mapLoaded (s : State) (f : Frame) (k : Byte) (a : Answer) : (s.reply f k a).mapLoaded = s.mapLoaded := by
  simp [State.reply]
@[simp] theorem State.reply_env (s : State) (f : Frame) (k : Byte) (a : Answer) : (s.reply f k a).env = s.env := by
  simp [State.reply]
@[simp] theorem State.reply_blk (s : State) (f : Frame) (k : Byte) (a : Answer) : (s.reply f k a).blk = s.blk := by
  simp [State.reply]
@[simp] theorem State.reply_inFlight (s : State) (f : Frame) (k : Byte) (a : Answer) : (s.reply f k a).inFlight = s.inFlight := by
  simp [State.reply]
@[simp] theorem State.reply_waiting (s : State) (f : Frame) (k : Byte) (a : Answer) : (s.reply f k a).waiting = s.waiting := by
  simp [State.reply]
@[simp] theorem State.reply_live (s : State) (f : Frame) (k : Byte) (a : Answer) : (s.reply f k a).live = s.live := by
  simp [State.reply]
@[simp] theorem State.reply_closed (s : State) (f : Frame) (k : Byte) (a : Answer) : (s.reply f k a).closed = s.closed := by
  simp [State.reply]
@[simp] theorem State.reply_mastA (s : State) (f : Frame) (k : Byte) (a : Answer) : (s.reply f k a).mastA = s.mastA := by
  simp [State.reply]
@[simp] theorem State.reply_mastB (s : State) (f : Frame) (k : Byte) (a : Answer) : (s.reply f k a).mastB = s.mastB := by
  simp [State.reply]
@[simp] theorem State.reply_freeSeed (s : State) (f : Frame) (k : Byte) (a : Answer) : (s.reply f k a).freeSeed = s.freeSeed := by
  simp [State.reply]

@[simp] theorem State.taken_replies (s : State) (f : Frame) (p : Port) : ((s.taken f).port p).replies = (s.port p).replies := by
  simp only [State.taken, State.shiftStatus, State.frameBits, State.port_modPort]
  split <;> simp_all

@[simp] theorem State.taken_reserved (s : State) (f : Frame) (p : Port) : (s.taken f).reservedPlaces p = s.reservedPlaces p := by
  cases p <;> simp [State.reservedPlaces]

@[simp] theorem State.taken_freePlaces (s : State) (f : Frame) (p : Port) : (s.taken f).freePlaces p = s.freePlaces p := by
  simp [State.freePlaces]

end Sys2Proof.Machine
end

