-- ==== Sys2Proof/Laws/Cascade.lean ====
section
/-! SUPPORT. What a cascade of hand-ons can do, said once: it keeps what every hand-on keeps, and it ends at once when its
hand-ons give no others. -/

namespace Sys2Proof.Machine

open Sys2Proof

/-- What every hand-on keeps, a cascade keeps. -/
theorem cascade_keeps {P : Block → Prop} (e : Env) (keep : ∀ t b, P b → P (handle e t b).1) :
    ∀ (n : Nat) (hold : Option ShuttleId) (due : Due) (ts : List HandOn) (b c : Block),
      cascade e n hold due ts b = some c → P b → P c := by
  intro n
  induction n with
  | zero => intro hold due ts b c h; simp [cascade] at h
  | succ n ih =>
    intro hold due ts b c h hb
    cases ts with
    | nil =>
      simp only [cascade] at h
      split at h
      · cases h; exact hb
      · cases h; exact hb
      · exact ih _ _ _ _ _ h hb
      · exact ih _ _ _ _ _ h hb
    | cons t ts =>
      cases t
      case wantPass => exact ih _ _ _ _ _ h hb
      case wantPlan => exact ih _ _ _ _ _ h hb
      case holdOffers => exact ih _ _ _ _ _ h hb
      case releaseOffers => exact ih _ _ _ _ _ h hb
      case pass => exact ih _ _ _ _ _ h hb
      case offer s =>
        simp only [cascade] at h
        split at h
        · exact ih _ _ _ _ _ h hb
        · exact ih _ _ _ _ _ h (keep (.offer s) b hb)
      all_goals exact ih _ _ _ _ _ h (keep _ _ hb)

/-- What every hand-on keeps, an event's hand-ons keep. -/
theorem finish_keeps {P : Block → Prop} {e : Env} {x : Handed} {c : Block} (keep : ∀ t b, P b → P (handle e t b).1)
    (h : Handed.finish e x = some c) (hx : P x.1) : P c := cascade_keeps e keep _ _ _ _ _ _ h hx

/-- No hand-ons: nothing follows. -/
@[simp] theorem finish_nil (e : Env) (b : Block) : Handed.finish e (b, []) = some b := by
  simp [Handed.finish, cascadeFuel, cascade]

/-- The hand-ons end at once at `c`: each, in turn, gives no other, and none of them asks for a plan or a pass or holds
offers back. -/
def Settles (e : Env) : List HandOn → Block → Block → Prop
  | [], b, c => c = b
  | t :: ts, b, c =>
    (∀ s, t ≠ .holdOffers s) ∧ t ≠ .wantPass ∧ (∀ k, t ≠ .wantPlan k) ∧ (handle e t b).2 = []
      ∧ Settles e ts (handle e t b).1 c

/-- Nothing is owed to the park plan: no robot is to be planned alone, or the event's pass is made. -/
def Due.clear (x : Due) : Prop := x = .plans [] ∨ x = .made

theorem cascade_settles (e : Env) :
    ∀ (ts : List HandOn) (n : Nat) (due : Due) (b c : Block), ts.length < n → due.clear → Settles e ts b c →
      cascade e n none due ts b = some c := by
  intro ts
  induction ts with
  | nil =>
    intro n due b c hn hd h
    obtain ⟨m, rfl⟩ : ∃ m, n = m + 1 := ⟨n - 1, by simp at hn; omega⟩
    obtain rfl | rfl := hd <;> simp [cascade, show c = b from h]
  | cons t ts ih =>
    intro n due b c hn hd h
    obtain ⟨m, rfl⟩ : ∃ m, n = m + 1 := ⟨n - 1, by simp at hn; omega⟩
    obtain ⟨h1, h2, h3, h4, h5⟩ := h
    have hm : ts.length < m := by simp at hn; omega
    have hgo := ih m due _ c hm hd h5
    cases t
    case wantPass => exact absurd rfl h2
    case wantPlan k => exact absurd rfl (h3 k)
    case holdOffers s => exact absurd rfl (h1 s)
    case releaseOffers => simpa [cascade, handle] using hgo
    case pass =>
      have hmade := ih m .made _ c hm (.inr rfl) h5
      simp only [handle] at h4 hmade
      simpa [cascade, h4] using hmade
    case offer s =>
      simp only [handle] at h4 hgo
      simpa [cascade, h4] using hgo
    all_goals simpa [cascade, h4] using hgo

/-- An event whose hand-ons end at once. -/
theorem finish_settles {e : Env} {ts : List HandOn} {b c : Block} (hn : ts.length < cascadeFuel) (h : Settles e ts b c) :
    Handed.finish e (b, ts) = some c := cascade_settles e ts _ _ b c hn (.inl rfl) h

/-- Outside a storm a pass plans no robot (R168). -/
theorem parkPass_calm {b : Block} (h : b.storm = false) : parkPass b = [] := by simp [parkPass, h]

/-- The test of R177 changes nothing when it does not hold. -/
theorem recoverTest_fails {e : Env} {b : Block} (h : b.recovered e = false) : recoverTest e b = (b, []) := by
  simp [recoverTest, h]

/-- Outside RECOVER the test of R177 does not hold. -/
theorem recovered_weather {e : Env} {b : Block} (h : b.weather ≠ .recover) : b.recovered e = false := by
  simp [Block.recovered, h]

end Sys2Proof.Machine
end

