-- ==== Sys2Proof/Laws/Requests.lean ====
section
/-! SUPPORT. What a request frame can do, said once. -/

namespace Sys2Proof.Machine

open Sys2Proof

/-- A frame that is taken passes the port interface's checks. -/
theorem Taken.check {q : Request} {f : Frame} {s : State} (h : Taken q f s) : portCheck q f s = none := by
  obtain ⟨-, -, hlen, hon, hmap, hq⟩ := h
  unfold portCheck
  rw [if_neg (by omega), if_neg (by simp [hon]), if_neg (by simpa using hmap)]
  cases hl : q.len with
  | none => rfl
  | some n => simp_all

/-- A taken request is served by its body, on the state in which the frame's own marks are made. -/
theorem request_taken {q : Request} {f : Frame} {s : State} (h : Taken q f s) (body : State → Served) :
    request q f s body =
      match body (s.taken f) with
      | some (t, a) => .next (t.reply f q.kind a)
      | none => .fault .cascadeBound := by
  have h1 : s.inReset = false := h.1
  have h2 : s.freePlaces f.port ≠ 0 := by have := h.2.1; omega
  simp [request, awake, h1, h2, h.check, State.taken] <;> rfl

/-- All that a request can do when it answers a next state: nothing while RESETn is asserted; the full-queue bit alone
when no place is free; a refusal of the port interface; or the request's own body with its reply. -/
theorem request_next {q : Request} {f : Frame} {s t : State} {body : State → Served} (h : request q f s body = .next t) :
    (s.inReset = true ∧ t = s)
      ∨ (s.inReset = false ∧ s.freePlaces f.port = 0 ∧ t = (s.shiftStatus f.port).frameBits f.port true false)
      ∨ (s.inReset = false ∧ s.freePlaces f.port ≠ 0 ∧ ∃ c, portCheck q f s = some c ∧ t = (s.taken f).reply f q.kind { code := c })
      ∨ (s.inReset = false ∧ s.freePlaces f.port ≠ 0 ∧ portCheck q f s = none
          ∧ ∃ u a, body (s.taken f) = some (u, a) ∧ t = u.reply f q.kind a) := by
  unfold request awake at h
  split at h
  · next hr => exact .inl ⟨hr, by cases h; rfl⟩
  · next hr =>
    replace hr : s.inReset = false := by simpa using hr
    simp only at h
    split at h
    · next h0 => exact .inr (.inl ⟨hr, h0, by cases h; rfl⟩)
    · next h0 =>
      split at h
      · next c hc => exact .inr (.inr (.inl ⟨hr, h0, c, hc, by cases h; rfl⟩))
      · next hc =>
        split at h
        · next u a hb => exact .inr (.inr (.inr ⟨hr, h0, hc, u, a, hb, by cases h; rfl⟩))
        · cases h

/-- All that an event of the part can do when it answers a next state. -/
theorem event_next {s t : State} {x : Handed} (h : s.event x = .next t) :
    ∃ b, Handed.finish s.env x = some b ∧ t = { s with blk := b } := by
  unfold State.event at h
  split at h
  · next b hb => exact ⟨b, hb, by cases h; rfl⟩
  · cases h

/-- All that a served request can do. -/
theorem serve_some {s t : State} {x : Handed} {a c : Answer} (h : s.serve x a = some (t, c)) :
    ∃ b, Handed.finish s.env x = some b ∧ t = { s with blk := b } ∧ c = a := by
  unfold State.serve at h
  cases hb : Handed.finish s.env x with
  | none => simp [hb] at h
  | some b => rw [hb] at h; simp at h; exact ⟨b, rfl, h.1.symm, h.2.symm⟩

end Sys2Proof.Machine
end

