-- ==== Sys2Proof/Laws/Operations.lean ====
section
/-! SUPPORT. What each shared operation can do, said once: tables, the deadline list, the link queue, numbers, ports. -/

namespace Sys2Proof.Machine

open Sys2Proof

/-! ## Tables: two changes of one entry are one change, and changes of two entries commute -/

/-- Tables with equal entries are equal. -/
theorem table_ext {α : Type} {n : Nat} {t u : Vector α n} (h : ∀ i : Fin n, t[i] = u[i]) : t = u :=
  Vector.ext fun i hi => h ⟨i, hi⟩

theorem modifyAt_modifyAt {α : Type} {n : Nat} (t : Vector α n) (i : Fin n) (g h : α → α) :
    modifyAt (modifyAt t i g) i h = modifyAt t i fun x => h (g x) := by
  refine table_ext fun j => ?_
  simp only [modifyAt_get]
  split <;> simp_all

theorem modifyAt_comm {α : Type} {n : Nat} (t : Vector α n) {i j : Fin n} (hij : i ≠ j) (g h : α → α) :
    modifyAt (modifyAt t i g) j h = modifyAt (modifyAt t j h) i g := by
  refine table_ext fun l => ?_
  simp only [modifyAt_get]
  split <;> split <;> simp_all

theorem modifyAt_same {α : Type} {n : Nat} (t : Vector α n) (i : Fin n) {g : α → α} (h : g t[i] = t[i]) :
    modifyAt t i g = t := by
  refine table_ext fun j => ?_
  rw [modifyAt_get]
  split <;> simp_all

/-- A change of one entry depends on what it does to that entry alone. -/
theorem modifyAt_congr {α : Type} {n : Nat} (t : Vector α n) (i : Fin n) {g h : α → α} (e : g t[i] = h t[i]) :
    modifyAt t i g = modifyAt t i h := by unfold modifyAt; rw [e]

theorem mapAll_same {α : Type} {n : Nat} (t : Vector α n) {g : Fin n → α → α} (h : ∀ i, g i t[i] = t[i]) :
    mapAll t g = t := table_ext fun i => by rw [mapAll_get, h]

theorem Block.modRow_modRow (b : Block) (r : RowId) (g h : RowState → RowState) :
    (b.modRow r g).modRow r h = b.modRow r fun x => h (g x) := by simp [Block.modRow, modifyAt_modifyAt]
theorem Block.modRobot_modRobot (b : Block) (k : RobotId) (g h : Robot → Robot) :
    (b.modRobot k g).modRobot k h = b.modRobot k fun x => h (g x) := by simp [Block.modRobot, modifyAt_modifyAt]
theorem Block.modShuttle_modShuttle (b : Block) (s : ShuttleId) (g h : Shuttle → Shuttle) :
    (b.modShuttle s g).modShuttle s h = b.modShuttle s fun x => h (g x) := by simp [Block.modShuttle, modifyAt_modifyAt]

theorem Block.modRobot_modRow (b : Block) (k : RobotId) (r : RowId) (g : Robot → Robot) (h : RowState → RowState) :
    (b.modRobot k g).modRow r h = (b.modRow r h).modRobot k g := rfl
theorem Block.modShuttle_modRow (b : Block) (s : ShuttleId) (r : RowId) (g : Shuttle → Shuttle) (h : RowState → RowState) :
    (b.modShuttle s g).modRow r h = (b.modRow r h).modShuttle s g := rfl
theorem Block.modShuttle_modRobot (b : Block) (s : ShuttleId) (k : RobotId) (g : Shuttle → Shuttle) (h : Robot → Robot) :
    (b.modShuttle s g).modRobot k h = (b.modRobot k h).modShuttle s g := rfl

theorem Block.modRow_same {b : Block} {r : RowId} {g : RowState → RowState} (h : g (b.row r) = b.row r) :
    b.modRow r g = b := by simp [Block.modRow, modifyAt_same _ _ (show g b.rows[r] = b.rows[r] from h)]
theorem Block.modRobot_same {b : Block} {k : RobotId} {g : Robot → Robot} (h : g (b.robot k) = b.robot k) :
    b.modRobot k g = b := by simp [Block.modRobot, modifyAt_same _ _ (show g b.robots[k] = b.robots[k] from h)]

theorem Block.modRow_congr {b : Block} {r : RowId} {g h : RowState → RowState} (e : g (b.row r) = h (b.row r)) :
    b.modRow r g = b.modRow r h := by
  simp [Block.modRow, modifyAt_congr _ _ (show g b.rows[r] = h b.rows[r] from e)]
theorem Block.modRobot_congr {b : Block} {k : RobotId} {g h : Robot → Robot} (e : g (b.robot k) = h (b.robot k)) :
    b.modRobot k g = b.modRobot k h := by
  simp [Block.modRobot, modifyAt_congr _ _ (show g b.robots[k] = h b.robots[k] from e)]

/-- Blocks that agree on every record and every other field are equal. -/
theorem Block.ext_records {b c : Block} (rows : ∀ r, b.row r = c.row r) (robots : ∀ k, b.robot k = c.robot k)
    (shuttles : ∀ s, b.shuttle s = c.shuttle s)
    (rest : b = { c with rows := b.rows, robots := b.robots, shuttles := b.shuttles }) : b = c := by
  have h1 : b.rows = c.rows := table_ext rows
  have h2 : b.robots = c.robots := table_ext robots
  have h3 : b.shuttles = c.shuttles := table_ext shuttles
  rw [rest, h1, h2, h3]

theorem Block.anyEnrolled_iff (b : Block) : b.anyEnrolled = true ↔ ∃ k, (b.robot k).mode ≠ .absent := by
  simp [Block.anyEnrolled, allRobots, Robot.enrolled]

theorem Block.storm_iff (b : Block) : b.storm = true ↔ b.weather = .park ∨ b.weather = .stow := by
  simp [Block.storm]

/-! ## The deadline list -/

/-- The new entry stands in the list, and nothing else is new. -/
theorem mem_insertDeadline (now : FarmSecond) (d x : Deadline) (l : List Deadline) :
    x ∈ insertDeadline now d l ↔ x = d ∨ x ∈ l := by
  induction l with
  | nil => simp [insertDeadline]
  | cons y ys ih =>
    unfold insertDeadline
    split
    · simp
    · simp only [List.mem_cons, ih]; tauto

/-- The insertion is at one place, before which no entry has more time remaining. -/
theorem insertDeadline_split (now : FarmSecond) (d : Deadline) (l : List Deadline) :
    ∃ front back, l = front ++ back ∧ insertDeadline now d l = front ++ d :: back
      ∧ (∀ x ∈ front, x.remaining now ≤ d.remaining now) ∧ ∀ x ∈ back.head?, d.remaining now < x.remaining now := by
  induction l with
  | nil => exact ⟨[], [], rfl, rfl, by simp, by simp⟩
  | cons y ys ih =>
    unfold insertDeadline
    split
    · next h => exact ⟨[], y :: ys, rfl, rfl, by simp, by simpa using h⟩
    · next h =>
      obtain ⟨front, back, h1, h2, h3, h4⟩ := ih
      refine ⟨y :: front, back, by simp [h1], by simp [h2], ?_, h4⟩
      intro x hx
      rcases List.mem_cons.mp hx with rfl | hx
      · omega
      · exact h3 x hx

theorem Block.mem_cancel (b : Block) (kind : DeadlineKind) (d : Deadline) :
    d ∈ (b.cancel kind).deadlines ↔ d ∈ b.deadlines ∧ d.kind ≠ kind := by simp [Block.cancel]

theorem Block.mem_arm (e : Env) (b : Block) (kind : DeadlineKind) (n : Nat) (d : Deadline) :
    d ∈ (b.arm e kind n).deadlines ↔
      d = { due := e.now + BitVec.ofNat 32 n, kind := kind }
        ∨ (d ∈ b.deadlines ∧ d.kind ≠ kind ∧ some d.kind ≠ kind.sibling) := by
  simp [Block.arm, mem_insertDeadline]

/-- A fresh entry has its whole duration remaining (R15, R16). -/
theorem Deadline.remaining_fresh (now : FarmSecond) (kind : DeadlineKind) {n : Nat} (h : n < 2 ^ 32) :
    ({ due := now + BitVec.ofNat 32 n, kind := kind } : Deadline).remaining now = n := by
  simp only [Deadline.remaining, BitVec.toNat_sub, BitVec.toNat_add, BitVec.toNat_ofNat]
  have := now.isLt
  omega

/-! ## The link queue -/

/-- A placement changes the link queue of an ENABLED link at that shuttle's entry, and nothing else (R84). -/
theorem Block.placeLink_eq (b : Block) (s : ShuttleId) (op : LinkOp) (counts : Bool) :
    b.placeLink s op counts =
      { b with link := { b.link with
          queue := if b.link.enabled then b.link.queue.set s (some ⟨op, counts⟩) else b.link.queue } } := by
  unfold Block.placeLink
  split <;> rfl

/-- The discard mark is set on the shuttle's transaction in flight, and nothing else changes (R86). -/
theorem Block.discardFlight_eq (b : Block) (s : ShuttleId) :
    b.discardFlight s =
      { b with link := { b.link with
          inFlight := b.link.inFlight.map fun x => if x.shuttle = s then { x with discard := true } else x } } := by
  obtain ⟨_, _, _, _, ⟨_, _, fl, _⟩⟩ := b
  cases fl with
  | none => rfl
  | some x =>
    simp only [Block.discardFlight, Option.map_some]
    split <;> rfl

/-! ## Numbers -/

theorem clamp_eq {lo hi v : Nat} (h : lo ≤ hi) : clamp lo hi v = min hi (max lo v) := by
  unfold clamp; split
  · omega
  · split <;> omega

theorem clamp_mem {lo hi : Nat} (h : lo ≤ hi) (v : Nat) : lo ≤ clamp lo hi v ∧ clamp lo hi v ≤ hi := by
  rw [clamp_eq h]; omega

theorem addSat_fst (top a d : Nat) : (addSat top a d).1 = min top (a + d) := by unfold addSat; split <;> simp <;> omega
theorem addSat_snd (top a d : Nat) : (addSat top a d).2 = decide (top < a + d) := by
  unfold addSat; split <;> simp <;> omega

/-! ## Ports and requests -/

theorem State.modPort_modPort (s : State) (p : Port) (g h : PortRec → PortRec) :
    (s.modPort p g).modPort p h = s.modPort p fun x => h (g x) := by cases p <;> rfl

/-- The port side of a taken request, as one change of the port. -/
theorem State.taken_eq (s : State) (f : Frame) :
    s.taken f = s.modPort f.port fun x =>
      { x with shifted := [s.statusByte f.port], refused := false, truncated := false } := by
  simp only [State.taken, State.frameBits, State.shiftStatus, State.modPort_modPort]

/-- An answered request beside its own effect changes its port alone (R182, R184). -/
theorem answered_eq (q : Request) (f : Frame) (a : Answer) (s : State) :
    answered q f a s = s.modPort f.port fun x =>
      { x with
        shifted := [s.statusByte f.port], refused := false, truncated := false
        replies := x.replies ++ [{ tag := f.tag, kind := q.kind, outcome := a.code.byte, payload := a.payload }] } := by
  simp only [answered, State.reply, State.taken_eq, State.modPort_modPort]

/-- A reply and a change of the block commute. -/
theorem answered_blk (q : Request) (f : Frame) (a : Answer) (s : State) (b : Block) :
    ({ s.taken f with blk := b }).reply f q.kind a = { answered q f a s with blk := b } := by
  unfold answered State.reply
  cases f.port <;> rfl

/-- A reply and a change of the environment and the block commute. -/
theorem answered_env_blk (q : Request) (f : Frame) (a : Answer) (s : State) (e : Env) (b : Block) :
    ({ s.taken f with env := e, blk := b }).reply f q.kind a = { answered q f a s with env := e, blk := b } := by
  unfold answered State.reply
  cases f.port <;> rfl

/-- A reply and a change of the environment commute. -/
theorem answered_env (q : Request) (f : Frame) (a : Answer) (s : State) (e : Env) :
    ({ s.taken f with env := e }).reply f q.kind a = { answered q f a s with env := e } := by
  unfold answered State.reply
  cases f.port <;> rfl

end Sys2Proof.Machine
end

