-- ==== Sys2Proof/Laws/Rest.lean ====
section
/-! SUPPORT. What the relations of the statements come to where an event gives no robot a task: the block stands, or takes the
change that the rule names alone. -/

namespace Sys2Proof.Machine

open Sys2Proof

variable {e : Env} {hold : Option ShuttleId} {k : RobotId} {b : Block}

/-- Outside a storm no pass is made. -/
theorem passMade_calm (h : b.storm = false) : PassMade e hold b b := ⟨fun _ => rfl, fun h' => by simp [h] at h'⟩

/-- With no robot to plan a pass changes nothing. -/
theorem passMade_empty (h : ∀ k, (b.robot k).mode ≠ .absent → RobotTask.park ∉ (b.robot k).stack) : PassMade e hold b b := by
  refine ⟨fun _ => rfl, fun _ => ?_⟩
  rw [List.filter_eq_nil_iff.mpr fun k _ => by simpa using h k]
  rfl

/-- The plan of a robot whose transfer is accepted on a shuttle that takes no work now. -/
theorem planned_occupied {u : ShuttleId} (h : (planRobot e k b).2 = [.offer u]) (hu : (planRobot e k b).1.Occupied u) :
    Planned e hold k b (planRobot e k b).1 := .inr ⟨u, h, .none _ (.inr hu)⟩

/-- A pass over one robot is its plan. -/
theorem passMade_one {c : Block} (hs : b.storm = true)
    (hk : ((List.finRange 24).filter fun k => (b.robot k).mode ≠ .absent ∧ RobotTask.park ∈ (b.robot k).stack) = [k])
    (h : Planned e hold k b c) : PassMade e hold b c :=
  ⟨fun h' => by simp [hs] at h', fun _ => by rw [hk]; exact ⟨c, h, rfl⟩⟩

/-- A robot with no round has no entry to skip. -/
theorem skips_no_round {r : RowId} {which : Entry → Prop} [DecidablePred which] {why : SkipReason}
    (h : (b.robot k).round = none) : Skips e k r which why b b :=
  ⟨fun _ => rfl, fun rd h' => by rw [h] at h'; cases h'⟩

/-- A robot that is given nothing comes to rest with nothing changed. -/
theorem comesToRest_idle (h : b.RestsIdle k) : ComesToRest e hold k b b := by
  show GivesTop e hold k (if _ then _ else b) b
  rw [if_neg (by simp [h.1])]
  exact .nothing b (h.2.elim (fun h => .inr (.inl h)) fun h => .inr (.inr h.1))

/-- A PARK task on top is left to the park plan. -/
theorem comesToRest_top (hd : (b.robot k).chargeDeferred = false) (h : (b.robot k).stack.head? = some .park) :
    ComesToRest e hold k b b := by
  show GivesTop e hold k (if _ then _ else b) b
  rw [if_neg (by simp [hd])]
  exact .nothing b (.inr (.inr h))

/-- It comes to rest with nothing changed where no pass is made, too. -/
theorem restsAlone_idle (h : b.RestsIdle k) : RestsAlone e k b b := by
  refine ⟨b, comesToRest_idle h, ?_⟩
  split
  · next hp =>
    obtain h' | h' := h.2
    · simp [h'] at hp
    · exact .inl ⟨by simp [planRobot, h'.2.2], by simp [planRobot, h'.2.2]⟩
  · rfl

/-- Where no charge plan waits, the retry at a DONE changes nothing. -/
theorem chargeRetried_none (h : (b.robot k).chargeWait = false) : ChargeRetried e hold k b b := by
  refine ⟨fun h' => by simp [h] at h', fun _ => ?_⟩
  refine (Block.modRobot_same ?_).symm
  generalize b.robot k = x at h
  cases x
  subst h
  rfl

/-- A robot that comes to rest with no PARK task on top is not planned. -/
theorem restsAlone_unplanned {c : Block} (h : ComesToRest e none k b c) (hp : (c.robot k).stack.head? ≠ some .park) :
    RestsAlone e k b c := ⟨c, h, by rw [if_neg fun h => hp h.1]⟩

/-- One that comes to rest at a row end with a PARK task on top is planned alone. -/
theorem restsAlone_planned {c d : Block} {p : RowId} (h : ComesToRest e none k b c)
    (hp : (c.robot k).stack.head? = some .park ∧ (c.robot k).IdleAt p) (hd : Planned e none k c d) : RestsAlone e k b d :=
  ⟨c, h, by rw [if_pos ⟨hp.1, p, hp.2⟩]; exact hd⟩

/-- What every robot of a list leaves alone, the list in turn leaves alone. -/
theorem inTurn_same {rule : RobotId → Block → Block → Prop} {ks : List RobotId} (h : ∀ k ∈ ks, rule k b b) :
    InTurn rule ks b b := by
  induction ks with
  | nil => rfl
  | cons k ks ih => exact ⟨b, h k (by simp), ih fun j hj => h j (by simp [hj])⟩

/-- A change made to each robot of a list without repeats, where the rule allows it of a robot not yet changed. -/
theorem inTurn_modRobot {rule : RobotId → Block → Block → Prop} {g : Robot → Robot} {ok : Robot → Prop} {ks : List RobotId}
    (step : ∀ k b, ok (b.robot k) → rule k b (b.modRobot k g)) (nodup : ks.Nodup) (h : ∀ k ∈ ks, ok (b.robot k)) :
    InTurn rule ks b (ks.foldl (fun c k => c.modRobot k g) b) := by
  induction ks generalizing b with
  | nil => rfl
  | cons k ks ih =>
    rw [List.nodup_cons] at nodup
    refine ⟨_, step k b (h k (by simp)), ih nodup.2 fun j hj => ?_⟩
    rw [Block.robot_modRobot, if_neg (by rintro rfl; exact nodup.1 hj)]
    exact h j (by simp [hj])

/-- A change made to each robot of a list without repeats changes those robots alone. -/
theorem foldl_modRobot (g : Robot → Robot) (ks : List RobotId) (b : Block) (nodup : ks.Nodup) :
    let c := ks.foldl (fun c k => c.modRobot k g) b
    c = { b with robots := c.robots } ∧ ∀ j, c.robot j = if j ∈ ks then g (b.robot j) else b.robot j := by
  induction ks generalizing b with
  | nil => exact ⟨rfl, fun j => by simp⟩
  | cons k ks ih =>
    rw [List.nodup_cons] at nodup
    obtain ⟨h1, h2⟩ := ih (b.modRobot k g) nodup.2
    refine ⟨h1, fun j => ?_⟩
    simp only [List.foldl_cons, h2, Block.robot_modRobot, List.mem_cons]
    by_cases hk : k = j
    · subst hk; simp [nodup.1]
    · simp [hk, Ne.symm hk]

/-- A robot that CALM entry gives no task takes its own change alone. -/
theorem calms_alone (h : (b.robot k).CalmsAlone) : Calms e k b (b.modRobot k Robot.calmed) := by
  refine ⟨fun given => .nothing _ ?_, fun _ => rfl⟩
  obtain ⟨hm, hg⟩ := given
  rw [Block.robot_modRobot, if_pos rfl, Robot.calmed, if_neg hm]
  by_cases hp : (b.robot k).mode = .idle ∧ ∃ p, (b.robot k).location = .rowEnd p
  · obtain h | h | h := h hp.1 hp.2
    · simp [h] at hg
    · simp [h]
    · obtain hg | ⟨-, rd, below, hg, -⟩ := hg
      · simp [h] at hg
      · simp [hg] at h
  · exact .inl fun p hi => hp ⟨hi.1, p, hi.2⟩

/-- A change made to every robot, one after another, is the change of the table. -/
theorem foldl_modRobot_all {g : Robot → Robot} {ks : List RobotId} (nodup : ks.Nodup) (all : ∀ k, k ∈ ks) (b : Block) :
    ks.foldl (fun c k => c.modRobot k g) b = { b with robots := mapAll b.robots fun _ => g } := by
  obtain ⟨h1, h2⟩ := foldl_modRobot g ks b nodup
  have hr : (ks.foldl (fun c k => c.modRobot k g) b).robots = mapAll b.robots fun _ => g :=
    table_ext fun j => by
      rw [mapAll_get]
      exact (h2 j).trans (if_pos (all j))
  rw [h1, hr]

/-- A CALM entry that gives no robot a task is the change of every robot's own record. -/
theorem calmEntered_alone (h : ∀ k, (b.robot k).CalmsAlone) : CalmEntered e b b.calmed := by
  have main := inTurn_modRobot (rule := Calms e) (g := Robot.calmed) (b := { b with weather := .calm, weatherChanged := true })
    (fun k b hk => calms_alone hk) (List.nodup_finRange 24) fun k _ => h k
  rw [foldl_modRobot_all (List.nodup_finRange 24) List.mem_finRange] at main
  exact main

end Sys2Proof.Machine
end

