-- ==== Sys2Proof/Tests/Slice0.lean ====
section
/-! SUPPORT. Tests of the model. Expected values come from the spec's own examples and tables, or are worked by hand from its
rules; each test names its source. The `test_witness_…` theorems show states and operands that meet the hypotheses of a
statement for the provers, clause by clause. -/

namespace Sys2Proof.Tests

open Sys2Proof Sys2Proof.Machine

set_option Elab.async false

/-! ## Small states -/

/-- The state a command leaves; the reset state where it leaves none. -/
def nextOf (o : Host.Outcome State Fault Refusal) : State := match o with | .next t => t | _ => State.reset

/-- The command completes with a next state. -/
def runs (o : Host.Outcome State Fault Refusal) : Bool := match o with | .next _ => true | _ => false

def fromPlant (len : Nat) : Frame := { port := .plant, tag := 7, len := BitVec.ofNat 8 len }
def fromTracker (len : Nat) : Frame := { port := .tracker, tag := 7, len := BitVec.ofNat 8 len }
def fromFleet (len : Nat) : Frame := { port := .fleet, tag := 7, len := BitVec.ofNat 8 len }

/-- One row's record, one row's figures, one robot, one shuttle or the block changed. -/
def row (r : RowId) (g : RowState → RowState) (s : State) : State := { s with blk := s.blk.modRow r g }
def data (r : RowId) (g : RowData → RowData) (s : State) : State := { s with env := s.env.modRow r g }
def robot (k : RobotId) (g : Robot → Robot) (s : State) : State := { s with blk := s.blk.modRobot k g }
def shuttle (u : ShuttleId) (g : Shuttle → Shuttle) (s : State) : State := { s with blk := s.blk.modShuttle u g }
def block (g : Block → Block) (s : State) : State := { s with blk := g s.blk }

/-- Rows 20 and 21 are present, row 21 with a cradle, and shuttle 0 serves bays 0 and 1. -/
def farm : State :=
  shuttle 0 (fun x => { x with range := some (0, 1), mode := .idle })
    (data 20 (fun d => { d with present := true, shuttle := some 0 })
      (data 21 (fun d => { d with present := true, shuttle := some 0, cradle := true })
        { State.reset with mapLoaded := true }))

/-- The farm in CALM, and in PARK. -/
def calm : State := block (fun b => { b with weather := .calm }) farm
def parked : State := block (fun b => { b with weather := .park, level := .park }) farm
/-- The farm in RECOVER with nothing that keeps it there. -/
def recovering : State := block (fun b => { b with weather := .recover }) farm

/-- Robot 5 IDLE at the end of row 20; waiting for its hold of row 20; on the surface of row 20. -/
def standing (s : State) : State :=
  row 20 (fun x => { x with occupant := some 5 })
    (robot 5 (fun x => { x with mode := .idle, location := .rowEnd 20, battery := 30 }) s)
def waiting (s : State) : State :=
  block (fun b => b.arm s.env (.holdConfirm 5) 120)
    (row 20 (fun x => { x with occupant := some 5, holder := some 5, tracker := .holdPending })
      (robot 5 (fun x => { x with mode := .waitHold, location := .rowEnd 20, battery := 90 }) s))
def riding (s : State) : State :=
  block (fun b => b.arm s.env (.holdLimit 5) 2700)
    (row 20 (fun x => { x with holder := some 5, tracker := .held })
      (robot 5 (fun x => { x with mode := .onRow, location := .onRow 20, battery := 90 }) s))

/-- Robot 5 stands CARRIED(0). -/
def aboard (s : State) : State := robot 5 (fun z => { z with mode := .carried, location := .carried 0 }) s
/-- The same robot with the task stack given. -/
def withStack (stack : List RobotTask) (s : State) : State := robot 5 (fun z => { z with stack := stack }) s
/-- No shuttle takes work now. -/
def still (s : State) : State := shuttle 0 (fun z => { z with mode := .localUnknown }) s

/-- Farm time is `n`. -/
def at' (n : Nat) (s : State) : State := { s with env := { s.env with now := BitVec.ofNat 32 n } }

/-- An OUTPUT REPORT of two pairs in flight, at its pair `next`. -/
def report (pref next : Nat) : Report :=
  { tag := 17, pref := pref, t := 300, pairs := [(20, 2310), (22, 3)], next := next, processed := next - 1, skipped := 0,
    lowLight := false, reserved := true }
def reported (pref next : Nat) (s : State) : State := { s with inFlight := some (report pref next) }

/-- Mast A has the ring of 60 samples of 92 ws of the spec's gust example (chapter 9), and `c` pending. -/
def gusty (c : Nat) (s : State) : State :=
  { s with
    mastA := { s.mastA with
      pending := some c, speed := 92, ring := List.replicate 60 8464, sum := 507840, window := [92, 92, 92], gust := 92 }
    mastB := { s.mastB with health := .faulted, cause := some .silent } }

/-- The transfer of robot 5 from row 20 to row 21 that shuttle 0 runs, at a step. -/
def carriage (x : RunStep) : Transfer :=
  { tag := 3, robot := 5, source := .rowEnd 20, dest := .rowEnd 21, origin := .fleet, step := .running x }
def carrying (x : RunStep) (s : State) : State :=
  block (fun b => b.arm s.env (.shuttleStep 0) 180)
    (shuttle 0 (fun z => { z with mode := .moving, current := some 3, commandSent := true, queue := [carriage x] })
      (row 20 (fun y => { y with occupant := some 5 }) (row 21 (fun y => { y with reservation := some 3 })
        (robot 5 (fun z => { z with mode := .waitTransfer, location := .rowEnd 20, transfer := some 3 }) s))))

/-- A transaction of shuttle 0 in flight. -/
def flight (op : LinkOp) : Flight :=
  { shuttle := 0, txn := { op := op, counts := true }, buffer := op.data, discard := false, period := 4 }
def flying (op : LinkOp) (s : State) : State :=
  block (fun b => { b with link := { b.link with inFlight := some (flight op) } }) s
/-- READY at row 20 with no load, and the status that READY bytes of a row and a load are. -/
def answer : StatusBytes := { state := 1, position := 20, flags := 0, load := 0xFF, fault := 9 }
def seen (r : RowId) (load : Option RobotId) : Status :=
  { state := .ready, row := r, garage := false, load := load, fault := 9 }

/-! ## Well-formedness: each check refuses an ill-formed command -/

theorem test_wf_fetch_needs_its_header : ¬ (Instr.fetch .plant 2).WellFormed ∧ (Instr.fetch .plant 3).WellFormed := by decide
theorem test_wf_unknown_is_no_fetch : ¬ (Instr.unknownRequest (fromPlant 0) 0x01).WellFormed := by decide
theorem test_wf_unknown_is_no_port_reset : ¬ (Instr.unknownRequest (fromPlant 0) 0xFF).WellFormed := by decide
theorem test_wf_unknown_is_not_permitted : ¬ (Instr.unknownRequest (fromPlant 1) 0x02).WellFormed := by decide
theorem test_wf_kind_of_another_port : (Instr.unknownRequest (fromPlant 1) 0x31).WellFormed := by decide
theorem test_wf_report_carries_its_pairs :
    ¬ (Instr.outputReport (fromPlant 8) 0 1 1 []).WellFormed
      ∧ (Instr.outputReport (fromPlant 8) 0 1 1 [(0, 0)]).WellFormed := by decide

/-! ## Frames: the cases of R182 and the payloads of R187 -/

theorem test_frame_port_reset : frameCommand .tracker [0xFF] = .portReset .tracker := by decide
theorem test_frame_status_read : frameCommand .fleet [0x02] = .statusRead .fleet 1 := by decide
theorem test_frame_fetch : frameCommand .plant [0x01, 0, 0, 0, 0, 0, 0] = .fetch .plant 7 := by decide
theorem test_frame_truncated : frameCommand .plant [0x1A, 9, 1] = .truncatedFrame .plant := by decide
theorem test_frame_lock_row :
    frameCommand .plant [0x1A, 9, 1, 48] = .lockRow { port := .plant, tag := 9, len := 1 } 48 := by decide
theorem test_frame_transfer_to_the_garage :
    frameCommand .fleet [0x5A, 1, 3, 4, 1, 0] = .transfer { port := .fleet, tag := 1, len := 3 } 4 .garage := by decide
theorem test_frame_not_on_the_port :
    frameCommand .fleet [0x1A, 9, 1, 48] = .unknownRequest { port := .fleet, tag := 9, len := 1 } 0x1A := by decide

/-- R180: 0x02 is a status read; five bits more are no whole byte, and are discarded. -/
theorem test_bits_of_a_status_read :
    frameOfBits .fleet [false, false, false, false, false, false, true, false] = .statusRead .fleet 1
      ∧ wholeBytes [true, false, false, false, false, false, false, true, true, true, true, true, true] = [0x81] := by decide
/-- R180: the status byte 0x09 of the plant port leaves most significant bit first, zeros follow it, and SDO is released while
SEL is high. -/
theorem test_sdo_of_a_status_read :
    let t := nextOf (exec (.statusRead .plant 1) State.reset)
    (List.range 9).map (t.sdo .plant true) = [0, 0, 0, 0, 1, 0, 0, 1, 0].map (fun b => some (b == 1))
      ∧ t.sdo .plant false 4 = none := by decide +kernel

/-- R180: a fetch of three whole bytes and one bit: the fourth byte, the tag 0x81 of the reply, has begun, so its first bit is
shifted out, and 0 follows the byte; a frame of no whole byte shows the status byte. -/
theorem test_sdo_of_a_partial_byte :
    let s := { farm with plant := { farm.plant with replies := [⟨0x81, 2, 0, []⟩] } }
    let t := nextOf (exec (.fetch .plant 3) s)
    t.sdo .plant true 24 = some true ∧ t.sdo .plant true 32 = some false ∧ t.plant.replies.length = 1
      ∧ (List.range 8).map ((nextOf (exec (.statusRead .plant 0) s)).sdo .plant true)
          = [1, 0, 0, 0, 1, 0, 0, 1].map (fun b => some (b == 1)) := by decide +kernel

/-! ## Ports -/

/-- R184, R187: the reply to LOCK ROW before any MAP BAY is NO_MAP (4), with the kind and the tag of the request. -/
theorem test_no_map_reply :
    (nextOf (exec (.lockRow (fromPlant 1) 20) State.reset)).plant.replies
      = [{ tag := 7, kind := 0x1A, outcome := 4, payload := [] }] := by decide +kernel
/-- R181: the plant port at reset shows its identity 1 and a free report slot. -/
theorem test_status_byte_at_reset : State.reset.statusByte .plant = 0x09 := by decide +kernel
/-- R184: the empty reply. -/
theorem test_fetch_of_nothing :
    (nextOf (exec (.fetch .tracker 7) State.reset)).tracker.shifted = [0x02, 0, 0, 0, 0, 0, 0] := by decide +kernel
/-- R182, case 5: the fifth reply has no place. -/
theorem test_full_queue_refuses :
    (nextOf (exec (.closePeriod (fromPlant 0))
      { farm with plant := { farm.plant with replies := List.replicate 4 ⟨0, 2, 0, []⟩ } })).plant.refused = true := by
  decide +kernel

/-! ## Holds (chapter 2) -/

theorem test_claim_waits_for_the_hold :
    let t := nextOf (exec (.enterRow (fromFleet 2) 5 20) (standing calm))
    (t.blk.row 20).tracker = .holdPending ∧ (t.blk.robot 5).mode = .waitHold := by decide +kernel
theorem test_confirm_gives_go :
    let t := nextOf (exec (.holdConfirm (fromTracker 1) 20) (waiting calm))
    (t.blk.row 20).tracker = .held ∧ (t.blk.robot 5).order = .go 20 ∧ t.blk.armed (.holdLimit 5) = true := by decide +kernel
theorem test_late_confirm_wants_resume :
    let t := nextOf (exec (.holdConfirm (fromTracker 1) 20) calm)
    (t.blk.row 20).resumeWanted = true ∧ t.tracker.replies.map Reply.outcome = [17] := by decide +kernel
theorem test_expired_claim_fails :
    let t := nextOf (exec (.holdConfirmExpiry 5) (at' 120 (waiting calm)))
    (t.blk.robot 5).outcome = .entryFailed ∧ (t.blk.row 20).holder = none := by decide +kernel
theorem test_exit_frees_the_row :
    let t := nextOf (exec (.exitRow (fromFleet 1) 5) (riding calm))
    (t.blk.row 20).occupant = some 5 ∧ (t.blk.row 20).tracker = .tracking := by decide +kernel
theorem test_fault_under_a_rider_is_noted :
    ((nextOf (exec (.rowFault (fromTracker 1) 20) (riding calm))).blk.row 20).faultNoted = true := by decide +kernel
theorem test_stow_done : ((nextOf (exec (.stowDone (fromTracker 1) 20)
    (row 20 (fun x => { x with tracker := .stowReleased }) parked))).blk.row 20).tracker = .stowed := by decide +kernel

/-! ## Robots, rounds and transfers (chapters 3, 4 and 6) -/

theorem test_enroll_places_the_robot :
    ((nextOf (exec (.enroll (fromFleet 2) 5 20) farm)).blk.robot 5).location = .rowEnd 20 := by decide +kernel
/-- R50, check order: the end of row 20 is busy. -/
theorem test_enroll_at_a_busy_end :
    (nextOf (exec (.enroll (fromFleet 2) 6 20) (standing farm))).fleet.replies.map Reply.outcome = [12] := by decide +kernel
theorem test_fleet_reset_locks_what_was_claimed :
    let t := nextOf (exec (.fleetReset (fromPlant 0)) (riding calm))
    (t.blk.row 20).locked = some .fleetReset ∧ (t.blk.row 21).locked = none ∧ (t.blk.robot 5).mode = .absent := by
  decide +kernel
/-- R103: the round takes its own row of class 1 and the row of class 3 beside it, and claims the first. -/
theorem test_request_work_starts_at_its_row :
    let t := nextOf (exec (.requestWork (fromFleet 1) 5)
      (row 20 (fun x => { x with cls := 1 }) (row 21 (fun x => { x with cls := 3 }) (standing calm))))
    (t.blk.row 20).tracker = .holdPending ∧ (t.blk.row 21).reservedBy = some 5 := by decide +kernel
/-- R70: an idle shuttle of unknown position is sent to the source row, for the step timeout of 180 s. -/
theorem test_transfer_starts_at_once :
    let t := nextOf (exec (.transfer (fromFleet 3) 5 (.rowEnd 21)) (standing calm))
    (t.blk.shuttle 0).mode = .moving ∧ t.blk.timeLeft t.env (.shuttleStep 0) = 180
      ∧ (t.blk.row 21).reservation = some 0 := by decide +kernel
/-- R64: the command that was pending when a status reported the FAULT is not sent to the FAULTED shuttle. -/
theorem test_faulted_shuttle_is_sent_nothing :
    let s := block (fun b => b.placeLink 0 (.move 20 none) false) (flying .status (carrying .moveToSource calm))
    let t := nextOf (exec (.transactionCompletion { answer with state := 3 }) s)
    (t.blk.shuttle 0).mode = .faulted ∧ t.blk.link.nextServed = none ∧ s.blk.link.nextServed = some 0 := by decide +kernel
theorem test_step_timeout_faults_the_shuttle :
    let t := nextOf (exec (.shuttleStepExpiry 0) (at' 180 (carrying .loading calm)))
    (t.blk.shuttle 0).mode = .faulted ∧ (t.blk.robot 5).outcome = .transferFailed .shuttleTimeout := by decide +kernel
/-- R82, R187: MOVE to row 20 with no load expected, on shuttle 0: address 0x08, row 0x14 and 0xFF in periods 1 to 24, most
significant bit first; none in the period before and the one after. -/
theorem test_link_bits_of_a_move :
    let s := flying (.move 20 none) calm
    ((List.range 24).map fun i => s.linkBit (i + 1))
        = [0, 0, 0, 0, 1, 0, 0, 0, 0, 0, 0, 1, 0, 1, 0, 0, 1, 1, 1, 1, 1, 1, 1, 1].map (fun b => some (b == 1))
      ∧ s.linkBit 0 = none ∧ s.linkBit 25 = none := by decide +kernel
/-- R82: the five bytes of a STATUS, sent most significant bit first. -/
theorem test_status_of_the_bits :
    statusOfBits ([0, 0, 0, 0, 0, 0, 0, 1, 0, 0, 0, 1, 0, 1, 0, 0, 0, 0, 0, 0, 0, 0, 0, 0, 1, 1, 1, 1, 1, 1, 1, 1,
      0, 0, 0, 0, 1, 0, 0, 1].map (· == 1)) = some { state := 1, position := 20, flags := 0, load := 0xFF, fault := 9 } := by
  decide +kernel
/-- R82, R83: a shuttle that does not answer reads as all ones, and is not valid. -/
theorem test_silent_shuttle_is_not_valid : readStatus (farm.blk.shuttle 0) ⟨0xFF, 0xFF, 0xFF, 0xFF, 0xFF⟩ = none := by
  decide +kernel

/-! ## Soiling and accounts (chapters 7 and 8) -/

/-- By hand from R124 to R131: E 2400, S 90, Ss 90 and Es 2400 (RESTART takes them whole), f = (90 × 4096 + 1200) / 2400 = 154,
loss 90 × 300, and 154 meets the first threshold of 82 only. -/
theorem test_row_step :
    let t := nextOf (exec .rowStep (row 20 (fun x => { x with restart := true }) (reported 2400 1 farm)))
    ((t.env.row 20).ss, (t.env.row 20).es, (t.env.row 20).f, (t.env.row 20).loss, t.live.loss)
      = (90, 2400, 154, 27000, 27000) ∧ (t.blk.row 20).cls = 1 := by decide +kernel
/-- By hand from R126 with m = 3: Ss = (7 × 90 + 90 + 4) / 8 from 90, and f from it; with the credit open and f_pre 200,
(2400 × 200 + 2048) / 4096 = 117 would have been lost, so 27 × 300 is recovered (R129). -/
theorem test_row_step_recovers :
    let t := nextOf (exec .rowStep
      (data 20 (fun d => { d with ss := 90, es := 2400, fPre := 200, credit := 1 }) (reported 2400 1 farm)))
    ((t.env.row 20).ss, (t.env.row 20).recovered, (t.env.row 20).credit) = (90, 8100, 0) := by decide +kernel
/-- R121, R122: the last pair, of a row not present, completes the report. -/
theorem test_last_pair_completes :
    let t := nextOf (exec .rowStep (reported 2400 2 farm))
    t.inFlight = none ∧ t.plant.replies = [⟨17, 0x14, 0, [1, 1, 0, 1, 44]⟩] := by decide +kernel
theorem test_close_period_counts_from_now :
    (nextOf (exec (.closePeriod (fromPlant 0)) (at' 5 farm))).live.start = 5 := by decide +kernel

/-! ## Wind and storm (chapters 9 and 10) -/

/-- Steps 1 to 3 of the spec's gust example: the speeds 122, 161 and 207 ws, and the levels WATCH, PARK and STOW. -/
theorem test_gust_example_step_1 :
    let t := nextOf (exec .mastStep (gusty 16 calm))
    (t.mastA.speed, t.mastA.sum, t.mastA.gust) = (122, 514260, 122) ∧ t.blk.weather = .watch := by decide +kernel
theorem test_gust_example_speeds : sampleSpeed 1958 21 = 161 ∧ sampleSpeed 1958 27 = 207 ∧ sampleSpeed 1958 12 = 92 := by
  decide
/-- The spec's example of two lost masts: a count of 65535 is clamped to 1000 ws. -/
theorem test_saturated_count_is_clamped : sampleSpeed 1958 65535 = 1000 := by decide
/-- R175 at step 3 of the gust example: STOWD is asserted and the rows are released. -/
theorem test_stow_entry :
    let t := nextOf (exec .mastStep (gusty 27 calm))
    t.blk.weather = .stow ∧ t.stowdPin = true ∧ (t.blk.row 20).tracker = .stowReleased := by decide +kernel
theorem test_tick_counts_a_hold_second :
    let t := nextOf (exec .tick (riding calm))
    (t.env.row 20).holdSeconds = 1 ∧ (t.env.row 21).holdSeconds = 0 ∧ t.env.now = 1 := by decide +kernel

/-! ## The queue -/

theorem test_step_takes_the_front :
    (nextOf (step { farm with pending := [.mastPulse .a, .tick] })).pending = [.tick] := by decide +kernel
theorem test_no_word_spells_a_command : decodeTableWord 8 0x02 = none := by decide

/-! ## Witnesses: the hypotheses of each statement can be met -/

theorem test_witness_StepTakesTheFront : (farm.withFront .tick).pending = .tick :: farm.pending ∧ farm.pending = [] := by
  decide +kernel
theorem test_witness_ResetHoldsThePart :
    ({ farm with inReset := true } : State).inReset = true ∧ (Instr.mastPulse .a).WellFormed
      ∧ Instr.mastPulse .a ≠ .resetnAsserted ∧ Instr.mastPulse .a ≠ .powerOn ∧ Instr.mastPulse .a ≠ .contendAsserted
      ∧ Instr.mastPulse .a ≠ .contendDeasserted := by decide +kernel
theorem test_witness_PortChecksInOrder :
    requestFrame (.lockRow (fromPlant 1) 20) = some (.lockRow, fromPlant 1) ∧ farm.inReset = false
      ∧ ({ farm with plant := { farm.plant with replies := List.replicate 4 ⟨0, 2, 0, []⟩ } } : State).freePlaces .plant = 0
      ∧ farm.freePlaces .plant ≠ 0 ∧ 250 < (fromPlant 251).len.toNat ∧ (fromPlant 250).len.toNat ≤ 250
      ∧ Request.lockRow.on .tracker = false
      ∧ (Request.lockRow.on .plant = true ∧ Request.lockRow.row = true ∧ State.reset.mapLoaded = false)
      ∧ (farm.mapLoaded = true ∧ Request.lockRow.len = some 1 ∧ (fromPlant 2).len.toNat ≠ 1) := by decide +kernel
theorem test_witness_FetchShiftsTheOldestReply :
    farm.inReset = false ∧ 3 ≤ 3 ∧ (farm.port .plant).replies = []
      ∧ (({ farm with plant := { farm.plant with replies := [⟨0, 2, 0, [5]⟩] } } : State).port .plant).replies
          = ⟨0, 2, 0, [5]⟩ :: []
      ∧ 7 + [5].length ≤ 8 ∧ 7 < 7 + [5].length := by decide +kernel
theorem test_witness_FramesThatAreNoRequest :
    (Instr.unknownRequest (fromTracker 0) 0x1A).WellFormed ∧ farm.inReset = false := by decide +kernel
theorem test_witness_RowsAndRobotsOutOfTheMap :
    requestFrame (.readRow (fromPlant 1) 22) = some (.readRow, fromPlant 1) ∧ Taken .readRow (fromPlant 1) farm
      ∧ (farm.env.row 22).present = false
      ∧ requestFrame (.withdraw (fromFleet 1) 24) = some (.withdraw, fromFleet 1) ∧ Taken .withdraw (fromFleet 1) farm
      ∧ 24 ≤ (24 : Byte).toNat := by decide +kernel
theorem test_witness_ReadRowLayout :
    Taken .readRow (fromPlant 1) farm ∧ (farm.env.row 20).present = true ∧ (farm.env.row 20).InRange := by decide +kernel
theorem test_witness_ReadsChangeNothing :
    Taken .readRobot (fromPlant 1) farm ∧ (23 : Byte).toNat = (23 : RobotId).val ∧ Taken .readShuttle (fromPlant 1) farm
      ∧ (3 : Byte).toNat = (3 : ShuttleId).val ∧ 4 ≤ (4 : Byte).toNat ∧ Taken .readWeather (fromPlant 0) farm := by
  decide +kernel
theorem test_witness_MapBayLoads :
    Taken .mapBay (fromPlant 49) farm ∧ 16 ≤ (16 : Byte).toNat ∧ (15 : Byte).toNat < 16
      ∧ ((standing farm).blk.robot 5).mode ≠ .absent ∧ (∀ k, (farm.blk.robot k).mode = .absent)
      ∧ recovering.blk.LeavesRecover recovering.env ∧ ¬ farm.blk.LeavesRecover farm.env := by
  decide +kernel
theorem test_witness_SetShuttleGivesTheRange :
    Taken .setShuttle (fromPlant 3) farm ∧ 4 ≤ (4 : Byte).toNat ∧ (2 : Byte).toNat = (2 : ShuttleId).val
      ∧ ((15 : Byte).toNat ≤ (15 : Byte).toNat ∧ (15 : Byte).toNat < 16)
      ∧ (∃ v lo hi, v ≠ (2 : ShuttleId) ∧ (farm.blk.shuttle v).range = some (lo, hi) ∧ (1 : Byte).toNat ≤ hi.val
          ∧ lo.val ≤ (2 : Byte).toNat) := by decide +kernel
theorem test_witness_SetTimeKeepsTimeRemaining : Taken .setTime (fromPlant 4) (riding calm) := by decide +kernel
theorem test_witness_ArmingAndCancelling :
    ((riding calm).blk.deadlines.map fun d => d.remaining (riding calm).env.now).Pairwise (· ≤ ·) ∧ 14400 < 2 ^ 32
      ∧ DeadlineKind.parkDeadline ≠ .calmHoldoff := by decide +kernel
theorem test_witness_ConfigureStoresTheClampedValue :
    Taken .configure (fromPlant 5) farm ∧ (0 : Byte).toNat = 0 ∧ 0x1C < (0x1D : Byte).toNat
      ∧ (∃ x ∈ paramTable, (0x1C : Byte).toNat = x.number ∧ ¬ (0x13 ≤ x.number ∧ x.number ≤ 0x18)) := by decide +kernel
theorem test_witness_LockAndRestore :
    Taken .lockRow (fromPlant 1) farm ∧ Taken .restoreRow (fromPlant 1) farm ∧ (farm.env.row 20).present = true
      ∧ (farm.blk.row 20).locked = none
      ∧ ((row 20 (fun x => { x with locked := some .plant }) farm).blk.row 20).locked ≠ none := by decide +kernel
theorem test_witness_FetchAttentionLists : Taken .fetchAttention (fromTracker 1) (waiting calm) := by decide +kernel
theorem test_witness_HoldConfirmGrants :
    let s := waiting calm
    Taken .holdConfirm (fromTracker 1) s ∧ (s.env.row 20).present = true ∧ (s.blk.row 20).tracker = .holdPending
      ∧ (s.blk.row 20).holder = some 5 ∧ RobotTask.park ∉ (s.blk.robot 5).stack
      ∧ (calm.blk.row 20).tracker ≠ .holdPending := by decide +kernel
/-- The grant to a robot with a PARK task in a storm: the pass orders it to exit. -/
theorem test_witness_HoldConfirmGrants_pass :
    let b := (withStack [.park] (riding parked)).blk
    PassMade farm.env none b (planRobot farm.env 5 b).1 ∧ ((planRobot farm.env 5 b).1.robot 5).order = .exit :=
  ⟨passMade_one (by decide +kernel) (by decide +kernel) (.inl ⟨by decide +kernel, rfl⟩), by decide +kernel⟩
theorem test_witness_StowAndUnstow :
    let s := fun x => row 20 (fun z => { z with tracker := x }) parked
    (parked.env.row 20).present = true ∧ Taken .stowDone (fromTracker 1) (s .stowReleased)
      ∧ ((s .stowReleased).blk.row 20).tracker = .stowReleased ∧ (parked.blk.row 20).tracker ≠ .stowReleased
      ∧ Taken .unstowDone (fromTracker 1) (s .unstowWanted) ∧ ((s .unstowWanted).blk.row 20).tracker = .unstowWanted
      ∧ (parked.blk.row 20).tracker ≠ .unstowWanted
      ∧ (¬ parked.blk.LeavesRecover parked.env ∧ recovering.blk.LeavesRecover recovering.env) := by
  decide +kernel
theorem test_witness_RowFault :
    Taken .rowFault (fromTracker 1) calm ∧ (calm.env.row 20).present = true
      ∧ (¬ calm.blk.LeavesRecover calm.env
          ∧ (row 20 (fun x => { x with tracker := .faulted, cls := 0 }) recovering).blk.LeavesRecover recovering.env)
      ∧ (calm.blk.row 20).holder = none
      ∧ (((riding calm).blk.row 20).holder = some 5 ∧ ((riding calm).blk.row 20).tracker ≠ .holdPending
          ∧ ((riding calm).blk.robot 5).location = .onRow 20)
      ∧ (((waiting calm).blk.row 20).holder = some 5 ∧ ((waiting calm).blk.row 20).tracker = .holdPending) := by
  decide +kernel
theorem test_witness_RowReady :
    let s := row 20 (fun x => { x with faultNoted := true }) (riding calm)
    Taken .rowReady (fromTracker 1) s ∧ (s.env.row 20).present = true
      ∧ ((row 20 (fun x => { x with tracker := .faulted }) calm).blk.row 20).tracker = .faulted
      ∧ ((s.blk.row 20).tracker ≠ .faulted ∧ (s.blk.row 20).faultNoted = true ∧ (s.blk.row 20).holder = some 5
          ∧ (s.blk.robot 5).location = .onRow 20)
      ∧ ((calm.blk.row 20).tracker ≠ .faulted ∧ (calm.blk.row 20).faultNoted = false) := by decide +kernel
theorem test_witness_EnterRowClaims :
    let s := standing calm
    Taken .enterRow (fromFleet 2) s ∧ (5 : Byte).toNat = (5 : RobotId).val ∧ (s.env.row 20).present = true
      ∧ farm.blk.weather ≠ .calm ∧ s.blk.weather = .calm
      ∧ ((row 20 (fun x => { x with tracker := .unstowWanted }) s).blk.row 20).tracker = .unstowWanted
      ∧ ((waiting calm).blk.row 20).holder = some 5 ∧ (s.blk.robot 9).mode ≠ .idle
      ∧ ((row 20 (fun x => { x with reservedBy := some 7 }) s).blk.row 20).reservedBy = some 7
      ∧ ((s.blk.row 20).locked = none ∧ (s.blk.row 20).tracker = .tracking ∧ (s.blk.row 20).holder = none
          ∧ (s.blk.robot 5).mode = .idle ∧ (s.blk.robot 5).location = .rowEnd 20 ∧ (s.blk.row 20).reservedBy = none) := by
  decide +kernel
theorem test_witness_ExitRowEndsTheHold :
    let s := riding calm
    Taken .exitRow (fromFleet 1) s ∧ ((standing calm).blk.robot 5).mode ≠ .onRow ∧ (s.blk.robot 5).mode = .onRow
      ∧ (s.blk.robot 5).location = .onRow 20 ∧ s.blk.RestsIdle 5
      ∧ (¬ s.blk.LeavesRecover s.env ∧ (standing recovering).blk.LeavesRecover recovering.env) := by
  decide +kernel
/-- Robot 5 with a round of rows 20 and 21, the first entry as given, on the stack or under a PARK task. -/
def twoRows (first : Entry) : Round :=
  { start := 20, paused := false, entries := [first, { row := 21, state := .pending, entered := false, reason := none }] }
def cleaning (entered : Bool) : Round := twoRows { row := 20, state := .active, entered := entered, reason := none }
def skipped (why : SkipReason) : Round := twoRows { row := 20, state := .skipped, entered := false, reason := some why }
/-- What EXIT_ROW leaves before the round and the rest of robot 5 are seen to, outside a storm. -/
def exited (s : State) : Block :=
  ((s.blk.cancel (.holdLimit 5)).modRow 20 fun _ =>
      { s.blk.row 20 with
        holder := none, occupant := some 5, overstay := false, stranded := false, tracker := .tracking, resumeWanted := true }).modRobot
    5 fun w => { w with mode := .idle, location := .rowEnd 20, order := if w.order = .exit then .none else w.order }
/-- What the end of the claim of robot 5 leaves before its round and its rest are seen to (HOLD_CONFIRM_EXPIRY; a tracker fault
differs in the row's fields alone). -/
def unclaimed (s : State) : Block :=
  ((s.blk.cancel (.holdConfirm 5)).modRow 20 fun x => { x with holder := none }.returned s.blk.weather).modRobot 5 fun z =>
    { z with mode := if z.mode = .waitHold then .idle else z.mode, outcome := .entryFailed }
/-- A robot with no task, and one that cleans in a storm with a PARK task alone. -/
theorem test_witness_rests_idle :
    Skips farm.env 5 20 (fun x => x.state = .active ∧ x.entered = true) .aborted (exited (riding calm)) (exited (riding calm))
      ∧ ComesToRest farm.env none 5 (exited (riding calm)) (exited (riding calm))
      ∧ Skips farm.env 5 20 (fun x => x.state = .active) .holdTimeout (unclaimed (waiting calm)) (unclaimed (waiting calm))
      ∧ RestsAlone farm.env 5 (unclaimed (waiting calm)) (unclaimed (waiting calm))
      ∧ PassMade farm.env none parked.blk parked.blk :=
  ⟨skips_no_round (by decide +kernel), comesToRest_idle (by decide +kernel), skips_no_round (by decide +kernel),
    restsAlone_idle (by decide +kernel), passMade_empty (by decide +kernel)⟩
/-- Robot 5 exits row 20 within its round, shuttle 0 taking no work: the entry is SKIPPED, the robot is handed to its round,
and the round asks for the transfer to row 21. -/
def leaving : State := still (withStack [.round (cleaning true)] (riding calm))
def settled (why : SkipReason) (b : Block) : Block :=
  (b.modRow 20 fun y => { y with reservedBy := none }).modRobot 5 fun z => { z with stack := [.round (skipped why)] }
def handed (b : Block) : Block := (handToRound farm.env 5 b).2.1
theorem test_witness_rests_with_a_round :
    Skips farm.env 5 20 (fun x => x.state = .active ∧ x.entered = true) .aborted (exited leaving)
        (settled .aborted (exited leaving))
      ∧ ComesToRest farm.env none 5 (settled .aborted (exited leaving)) (handed (settled .aborted (exited leaving)))
      ∧ ((handed (settled .aborted (exited leaving))).robot 5).mode = .waitTransfer := by
  refine ⟨⟨fun h => ?_, fun rd h _ => ?_⟩, ?_, by decide +kernel⟩
  · exact absurd ⟨rfl, rfl, rfl⟩ (h (cleaning true) (by decide +kernel) ⟨20, .active, true, none⟩ (by decide))
  · obtain rfl : cleaning true = rd := Option.some.inj (h ▸ (by decide +kernel : some (cleaning true) = ((exited leaving).robot 5).round))
    exact ⟨fun _ => rfl, fun h => absurd rfl (h ⟨21, .pending, false, none⟩ (by decide)).1⟩
  · exact .roundAsks _ _ _ 20 (skipped .aborted) ((handToRound farm.env 5 (settled .aborted (exited leaving))).1.getD (cleaning true)) [] 0
      (by decide +kernel) (by decide +kernel) (Prod.ext (by decide +kernel) (Prod.ext rfl (by decide +kernel)))
      (.none _ (.inr (by decide +kernel)))
/-- The same where a pending claim ends: by its deadline, or by a tracker fault of its row. -/
theorem test_witness_claim_with_a_round :
    let b := unclaimed (still (withStack [.round (cleaning false)] (waiting calm)))
    Skips farm.env 5 20 (fun x => x.state = .active) .holdTimeout b (settled .holdTimeout b)
      ∧ RestsAlone farm.env 5 (settled .holdTimeout b) (handed (settled .holdTimeout b))
      ∧ ((handed (settled .holdTimeout b)).robot 5).mode = .waitTransfer := by
  refine ⟨⟨fun h => ?_, fun rd h _ => ?_⟩, restsAlone_unplanned ?_ (by decide +kernel), by decide +kernel⟩
  · exact absurd ⟨rfl, rfl⟩ (h (cleaning false) (by decide +kernel) ⟨20, .active, false, none⟩ (by decide))
  · obtain rfl : cleaning false = rd := Option.some.inj (h ▸ (by decide +kernel))
    exact ⟨fun _ => rfl, fun h => absurd rfl (h ⟨21, .pending, false, none⟩ (by decide)).1⟩
  · exact .roundAsks _ _ _ 20 (skipped .holdTimeout) ((handToRound farm.env 5 (settled .holdTimeout
        (unclaimed (still (withStack [.round (cleaning false)] (waiting calm)))))).1.getD (cleaning false)) [] 0
      (by decide +kernel) (by decide +kernel) (Prod.ext (by decide +kernel) (Prod.ext rfl (by decide +kernel)))
      (.none _ (.inr (by decide +kernel)))
/-- A robot with a PARK task that exits, brings its claim to an end, or is enrolled, in a storm: its plan alone, and the pass. -/
theorem test_witness_rests_in_a_storm :
    let b := (still (withStack [.park] (standing parked))).blk
    Skips farm.env 5 20 (fun x => x.state = .active) .holdTimeout b b ∧ ComesToRest farm.env none 5 b b
      ∧ RestsAlone farm.env 5 b (planRobot farm.env 5 b).1 ∧ PassMade farm.env none b (planRobot farm.env 5 b).1
      ∧ ((planRobot farm.env 5 b).1.robot 5).mode = .waitTransfer := by
  have hp := planned_occupied (e := farm.env) (hold := none) (k := 5) (u := 0)
    (b := (still (withStack [.park] (standing parked))).blk) (by decide +kernel) (by decide +kernel)
  have rest : ComesToRest farm.env none 5 (still (withStack [.park] (standing parked))).blk
      (still (withStack [.park] (standing parked))).blk := comesToRest_top (by decide +kernel) (by decide +kernel)
  exact ⟨skips_no_round (by decide +kernel), rest, restsAlone_planned (p := 20) rest (by decide +kernel) hp,
    passMade_one (by decide +kernel) (by decide +kernel) hp, by decide +kernel⟩
/-- The test of R177 passes over these blocks, and CALM entry gives no robot a task. -/
theorem test_witness_calm_entered :
    (recovering.blk.LeavesRecover farm.env ∧ CalmEntered farm.env recovering.blk recovering.blk.calmed)
      ∧ (standing recovering).blk.LeavesRecover farm.env
      ∧ CalmEntered farm.env (standing recovering).blk (standing recovering).blk.calmed
      ∧ CalmEntered farm.env (withStack [.park] (standing recovering)).blk (withStack [.park] (standing recovering)).blk.calmed :=
  ⟨⟨by decide +kernel, calmEntered_alone (by decide +kernel)⟩, by decide +kernel, calmEntered_alone (by decide +kernel),
    calmEntered_alone (by decide +kernel)⟩
theorem test_witness_HoldExpiries :
    let s := at' 120 (waiting calm)
    let t := at' 2700 (riding calm)
    (at' 119 s).blk.expires (at' 119 s).env (.holdConfirm 5) = false ∧ s.blk.expires s.env (.holdConfirm 5) = true
      ∧ (s.blk.row 20).holder = some 5 ∧ (∀ r, (s.blk.row r).holder = some 5 → r = 20)
      ∧ (s.blk.row 20).tracker = .holdPending ∧ s.blk.RestsIdle 5
      ∧ (at' 2699 t).blk.expires (at' 2699 t).env (.holdLimit 5) = false ∧ t.blk.expires t.env (.holdLimit 5) = true
      ∧ (t.blk.row 20).holder = some 5 ∧ ∀ r, (t.blk.row r).holder = some 5 → r = 20 := by decide +kernel
theorem test_witness_Enroll :
    Taken .enroll (fromFleet 2) farm ∧ (farm.env.row 20).present = true ∧ (farm.env.row 21).present = true
      ∧ (((standing farm).blk.robot 5).mode ≠ .absent ∧ ((standing farm).blk.robot 5).location ≠ .unknown)
      ∧ (farm.blk.robot 5).mode = .absent
      ∧ ((row 20 (fun x => { x with locked := some .plant }) farm).blk.row 20).locked ≠ none
      ∧ ((standing farm).blk.row 20).occupant ≠ none
      ∧ ((row 20 (fun x => { x with reservedBy := some 7 }) farm).blk.row 20).reservedBy = some 7
      ∧ ((farm.blk.row 20).locked = none ∧ (farm.blk.row 20).occupant = none ∧ (farm.blk.row 20).reservation = none
          ∧ (farm.blk.row 20).holder = none ∧ (farm.blk.row 20).reservedBy = none ∧ farm.blk.RestsIdle 5)
      ∧ (parked.blk.storm = true ∧ (parked.env.row 21).cradle = true ∧ (parked.blk.robot 5).order ≠ .brace
          ∧ (parked.blk.robot 5).standing ≠ .safe) := by decide +kernel
theorem test_witness_Withdraw :
    Taken .withdraw (fromFleet 1) (standing farm) ∧ ((riding farm).blk.robot 5).mode ≠ .idle
      ∧ ((standing farm).blk.robot 5).mode = .idle ∧ ((standing farm).blk.robot 5).stack = [] := by decide +kernel
/-- A QUEUED record of robot 5 from the end of row 20, on a shuttle that runs a step. -/
def queued (origin : Origin) : Transfer :=
  { tag := 4, robot := 5, source := .rowEnd 20, dest := .rowEnd 21, origin := origin, step := .queued }
def waitingQueued (s : State) : State :=
  shuttle 0 (fun z => { z with mode := .moving, current := some 3, queue := [{ carriage .moveToDest with robot := 6 }, queued .fleet] })
    (robot 5 (fun z => { z with mode := .waitTransfer, location := .rowEnd 20, transfer := some 4 }) s)
/-- A round of row 20 alone. -/
def oneRow (paused : Bool) : Round :=
  { start := 20, paused := paused, entries := [{ row := 20, state := .pending, entered := false, reason := none }] }
theorem test_witness_RobotStatusReports :
    let s := riding calm
    let down := robot 5 (fun z => { z with mode := .faulted }) s
    let braced := robot 5 (fun z => { z with mode := .braced }) s
    Taken .robotStatus (fromFleet 4) s ∧ (calm.blk.robot 5).mode = .absent ∧ (s.blk.robot 5).mode ≠ .absent
      ∧ (s.blk.robot 5).stack.head? ≠ some .charge ∧ ¬ min 100 (30 : Byte).toNat < s.env.params.chargeFloor
      ∧ min 100 (29 : Byte).toNat < s.env.params.chargeFloor ∧ s.blk.weather = .calm
      ∧ RobotTask.charge ∉ (s.blk.robot 5).stack ∧ (s.blk.robot 5).mode = .onRow
      ∧ ((s.blk.robot 5).round = none ∧ (s.blk.robot 5).transfer = none)
      ∧ ((down.blk.robot 5).mode = .faulted ∧ s.blk.RestsIdle 5) ∧ (braced.blk.robot 5).mode = .braced := by
  decide +kernel
/-- A FAULTED robot that recovers with a battery below the charge floor: at a cradle it takes a CHARGE task, riding it defers. -/
theorem test_witness_RobotStatusReports_recovers :
    let s := data 20 (fun d => { d with cradle := true }) (robot 5 (fun z => { z with mode := .faulted }) (standing calm))
    let c := s.blk.modRobot 5 fun z => { z with mode := .idle, battery := 10 }
    let p := c.modRobot 5 fun w => { w with stack := .charge :: w.stack }
    let d := p.modRobot 5 fun w => { w with chargeWait := false }
    let ride := (riding calm).blk.modRobot 5 fun z => { z with battery := 10 }
    (s.blk.robot 5).mode = .faulted ∧ s.env.params.InRange ∧ min 100 (10 : Byte).toNat < s.env.params.chargeFloor
      ∧ ComesToRest s.env none 5 c c ∧ (c.robot 5).IdleAt 20 ∧ RobotTask.charge ∉ (c.robot 5).stack
      ∧ ChargePlanned s.env none 5 20 p d ∧ ComesToRest s.env none 5 ride ride ∧ (ride.robot 5).mode = .onRow :=
  ⟨by decide +kernel, by decide +kernel, by decide +kernel, comesToRest_idle (by decide +kernel), by decide +kernel,
    by decide +kernel, .inl ⟨by decide +kernel, rfl⟩, comesToRest_idle (by decide +kernel), by decide +kernel⟩
theorem test_witness_RobotStatusReports_fault :
    let s := waitingQueued calm
    let none' := ∀ u, ∀ t ∈ ((riding calm).blk.shuttle u).queue, t.step = .queued → ((riding calm).blk.robot 5).transfer ≠ some t.tag
    none' ∧ (s.blk.shuttle 0).queue = [{ carriage .moveToDest with robot := 6 }] ++ queued .fleet :: []
      ∧ (s.blk.robot 5).transfer = some (queued .fleet).tag ∧ (carriage .moveToDest).tag ≠ (queued .fleet).tag
      ∧ (∀ v, v ≠ 0 → (queued .fleet).tag ∉ (s.blk.shuttle v).queue.map Transfer.tag)
      ∧ (s.blk.shuttle 0).current ≠ some 4 ∧ s.blk.Occupied 0 ∧ (s.blk.robot 5).mode = .waitTransfer := by decide +kernel
/-- The charge push at row 20 for row 21's cradle, at a cradle, and with no cradle; and the pop of a charge over a round. -/
theorem test_witness_RobotStatusReports_charge :
    let s := shuttle 0 (fun z => { z with mode := .localUnknown }) (standing calm)
    let t := data 20 (fun d => { d with cradle := true })
      (robot 5 (fun z => { z with stack := [.charge, .round (oneRow true)] }) (standing calm))
    let full := t.blk.modRobot 5 fun z => { z with battery := 90, stack := [.round (oneRow true)] }
    let given := (handToRound t.env 5 full).2.1
    ((s.env.row 20).shuttle = some 0 ∧ (s.env.row 20).cradle = false ∧ s.blk.CradleFor s.env 0 21
      ∧ s.blk.NearestCradle s.env 0 20 21 ∧ (s.blk.shuttle 0).queue.length < 8 ∧ (s.blk.robot 5).transfer = none
      ∧ (s.blk.shuttle 0).mode ≠ .faulted ∧ s.blk.LowestFree 0 ∧ s.blk.Occupied 0
      ∧ min 100 (29 : Byte).toNat < s.env.params.resumeLevel)
      ∧ ((t.env.row 20).cradle = true ∧ t.env.params.resumeLevel ≤ min 100 (90 : Byte).toNat
        ∧ (GivesTop t.env none 5 full given ∧ (given.robot 5).stack.head? ≠ some .park ∧ (given.robot 5).mode = .waitHold))
      ∧ ∀ c, ¬ (row 21 (fun x => { x with occupant := some 7 }) s).blk.CradleFor s.env 0 c :=
  ⟨by decide +kernel,
    ⟨by decide +kernel, by decide +kernel, .round _ _ 20 (oneRow true) _ [] (by decide +kernel) (by decide +kernel) rfl,
      by decide +kernel, by decide +kernel⟩,
    by decide +kernel⟩
theorem test_witness_FetchOrdersLists : Taken .fetchOrders (fromFleet 0) (riding calm) := by decide +kernel
theorem test_witness_FleetResetDropsTheFleet : Taken .fleetReset (fromPlant 0) (riding calm) := by decide +kernel
theorem test_witness_SearchTakesCandidates :
    (searchRange calm.env calm.blk 31).1 ≤ 31 ∧ 31 ≤ (searchRange calm.env calm.blk 31).2 := by decide +kernel
theorem test_witness_RequestWorkStartsARound :
    let s := standing calm
    let t := row 20 (fun x => { x with cls := 1 }) s
    Taken .requestWork (fromFleet 1) s ∧ farm.blk.weather ≠ .calm ∧ s.blk.weather = .calm
      ∧ ((riding calm).blk.robot 5).mode ≠ .idle
      ∧ ((s.blk.robot 5).mode = .idle ∧ (s.blk.robot 5).location = .rowEnd 20 ∧ (s.blk.robot 5).stack = [])
      ∧ ((robot 5 (fun z => { z with battery := 29 }) s).blk.robot 5).battery < s.env.params.chargeFloor
      ∧ s.env.params.chargeFloor ≤ (s.blk.robot 5).battery ∧ sweepRows s.env s.blk 20 s.env.params.roundLength = []
      ∧ sweepRows t.env t.blk 20 t.env.params.roundLength = [20] ∧ (t.blk.row 20).MarksAgree := by decide +kernel
/-- The round of REQUEST_WORK that goes to another row first; and what a round does that is handed its robot. -/
theorem test_witness_RequestWorkStartsARound_transfer :
    let s := shuttle 0 (fun z => { z with mode := .localUnknown }) (row 21 (fun x => { x with cls := 3 }) (standing calm))
    sweepRows s.env s.blk 20 s.env.params.roundLength = 21 :: [] ∧ (s.blk.row 21).MarksAgree ∧ s.blk.LowestFree 0
      ∧ s.blk.Occupied 0 ∧ (s.env.row 21).shuttle = some 0 ∧ (s.env.row 20).shuttle = some 0
      ∧ (s.blk.shuttle 0).mode ≠ .faulted ∧ (s.blk.robot 5).transfer = none := by decide +kernel
theorem test_witness_RequestWorkStartsARound_handed :
    let s := fun w : Weather => block (fun b => { b with weather := w })
      (robot 5 (fun z => { z with stack := [.round (oneRow true)] }) (standing calm))
    let b := (s .calm).blk
    ((b.robot 5).mode = .idle ∧ (b.robot 5).location = .rowEnd 20 ∧ (s .watch).blk.weather ≠ .calm)
      ∧ (∃ x ∈ (oneRow true).entries, x.Open ∧ ¬ (x.state = .active ∧ x.entered = true))
      ∧ ((b.row 20).tracker = .tracking ∧ (b.row 20).locked = none ∧ (b.row 20).holder = none)
      ∧ (row 20 (fun x => { x with stranded := true }) (s .calm)).blk.weather = .calm
      ∧ (∃ c, askTransfer calm.env b .round 5 (.rowEnd 21) = .ok (c, 0, 0))
      ∧ askTransfer calm.env b .round 5 (.rowEnd 22) = .error .badRow :=
  ⟨by decide +kernel, by decide +kernel, by decide +kernel, by decide +kernel, ⟨_, rfl⟩, by decide +kernel⟩
theorem test_witness_CleaningResults :
    let s := riding calm
    Taken .cleanDone (fromFleet 1) s ∧ Taken .cleanAbort (fromFleet 1) s ∧ ((standing calm).blk.robot 5).mode ≠ .onRow
      ∧ (s.blk.robot 5).mode = .onRow ∧ (s.blk.robot 5).location = .onRow 20 := by decide +kernel
/-- A failed transfer of a round that has another open entry, one that has none, and the step timeout of such a transfer. -/
def failing (others : List Entry) : Round :=
  { start := 20, paused := false
    entries := { row := 21, state := .active, entered := false, reason := none } :: others }
theorem test_witness_CleaningResults_failed :
    let x : Entry := { row := 20, state := .pending, entered := false, reason := none }
    let t := { carriage .moveToDest with origin := .round }
    let s := at' 180 (shuttle 0 (fun z => { z with queue := [t] })
      (robot 5 (fun z => { z with stack := [.round (failing [x])] }) (carrying .moveToDest calm)))
    (s.blk.robot 5).round = some (failing [x]) ∧ (∃ y ∈ (failing [x]).entries, y.row = 21 ∧ y.state = .active)
      ∧ (∃ y ∈ (failing [x]).entries, y.Open ∧ ¬ (y.row = 21 ∧ y.state = .active))
      ∧ (∀ y ∈ (failing [x]).entries, ¬ (y.row = 22 ∧ y.state = .active))
      ∧ (∃ y ∈ (failing []).entries, y.row = 21 ∧ y.state = .active)
      ∧ (s.blk.expires s.env (.shuttleStep 0) = true ∧ (s.blk.shuttle 0).current = some t.tag
          ∧ (s.blk.shuttle 0).queue = [] ++ t :: [] ∧ (s.blk.robot t.robot).stack = [.round (failing [x])]) := by
  decide +kernel
theorem test_witness_TransferChecksInOrder :
    let s := standing calm
    Taken (.transfer (.rowEnd 21)) (fromFleet 3) s ∧ (s.env.row 21).present = true ∧ parked.blk.weather = .park
      ∧ (s.blk.weather ≠ .park ∧ s.blk.weather ≠ .stow) ∧ ((riding calm).blk.robot 5).mode = .onRow
      ∧ ((s.blk.robot 5).mode = .idle ∧ (s.blk.robot 5).location = .rowEnd 20 ∧ (s.blk.robot 5).transfer = none)
      ∧ ((s.env.row 20).shuttle = some 0 ∧ (s.env.row 21).shuttle = some 0 ∧ (s.blk.shuttle 0).mode ≠ .faulted)
      ∧ (s.env.row 22).shuttle ≠ (s.env.row 20).shuttle
      ∧ ((row 21 (fun x => { x with locked := some .plant }) s).blk.row 21).locked ≠ none
      ∧ ((row 21 (fun x => { x with occupant := some 6 }) s).blk.row 21).occupant ≠ none
      ∧ ((s.blk.row 21).locked = none ∧ (s.blk.row 21).occupant = none ∧ (s.blk.row 21).reservation = none
          ∧ (s.blk.row 21).holder = none ∧ (s.blk.row 21).reservedBy = none)
      ∧ 8 ≤ ((shuttle 0 (fun z => { z with queue := List.replicate 8 (carriage .loading) }) s).blk.shuttle 0).queue.length := by
  decide +kernel
/-- The same checks for a robot CARRIED(0), to a row end and to the garage: each check met, and passed. -/
theorem test_witness_TransferChecksInOrder_carried :
    let s := aboard calm
    let parkedThere := robot 5 (fun z => { z with inGarage := true }) s
    let other := robot 6 (fun z => { z with mode := .carried, location := .carried 0, inGarage := true }) s
    Taken (.transfer .garage) (fromFleet 3) s ∧ Taken (.transfer (.rowEnd 21)) (fromFleet 3) s
      ∧ ((s.blk.robot 5).transfer = none ∧ (s.blk.robot 5).mode = .carried ∧ (s.blk.robot 5).location = .carried 0
        ∧ (s.blk.robot 5).inGarage = false ∧ (parkedThere.blk.robot 5).inGarage = true)
      ∧ ((s.blk.shuttle 0).mode ≠ .faulted ∧ (s.env.row 21).shuttle = some 0
        ∧ ((shuttle 0 (fun z => { z with mode := .faulted }) s).blk.shuttle 0).mode = .faulted)
      ∧ ((other.blk.robot 6).location = .carried 0 ∧ (other.blk.robot 6).inGarage = true)
      ∧ ((∀ j, (s.blk.robot j).location = .carried 0 → (s.blk.robot j).inGarage = false)
        ∧ ∀ t ∈ (s.blk.shuttle 0).queue, t.dest ≠ .garage) := by
  decide +kernel
/-- The record of robot 5 that an accepted TRANSFER makes, and the block it leaves before the offer. -/
def accepted (source : Source) (dest : Dest) : Transfer :=
  { tag := 0, robot := 5, source := source, dest := dest, origin := .fleet, step := .queued }
def boarding (s : State) : Block :=
  ((s.blk.modRow 21 fun x => { x with reservation := some 0 }).modRobot 5 fun z =>
      { z with transfer := some 0, mode := .waitTransfer }).modShuttle 0 fun x =>
    { x with queue := x.queue ++ [accepted (.rowEnd 20) (.rowEnd 21)] }
def toGarage (s : State) : Block :=
  (s.blk.modRobot 5 fun z => { z with transfer := some 0 }).modShuttle 0 fun x =>
    { x with queue := x.queue ++ [accepted (.carried 0) .garage] }
theorem test_witness_TransferAccepted :
    let s := standing calm
    (Taken (.transfer (.rowEnd 21)) (fromFleet 3) s ∧ (s.blk.weather ≠ .park ∧ s.blk.weather ≠ .stow)
      ∧ (s.blk.robot 5).transfer = none ∧ (s.blk.shuttle 0).mode ≠ .faulted ∧ (s.blk.shuttle 0).queue.length < 8
      ∧ s.blk.LowestFree 0)
      ∧ ((s.blk.robot 5).mode = .idle ∧ (s.blk.robot 5).location = .rowEnd 20 ∧ (s.env.row 20).shuttle = some 0)
      ∧ ((s.env.row 21).present = true ∧ (s.env.row 21).shuttle = some 0 ∧ (s.blk.row 21).Open)
      ∧ (still s).blk.Occupied 0 := by decide +kernel
theorem test_witness_TransferAccepted_carried :
    let c := aboard calm
    (Taken (.transfer .garage) (fromFleet 3) c ∧ (c.blk.robot 5).mode = .carried
        ∧ (c.blk.robot 5).location = .carried 0 ∧ (c.blk.row 21).Open ∧ (c.blk.robot 5).transfer = none ∧ c.blk.LowestFree 0)
      ∧ ((∀ j, (c.blk.robot j).location = .carried 0 → (c.blk.robot j).inGarage = false)
        ∧ ∀ t ∈ (c.blk.shuttle 0).queue, t.dest ≠ .garage)
      ∧ (still c).blk.Occupied 0 := by decide +kernel
/-- On an IDLE shuttle the record is offered and starts: at its source, and for the garage at MOVE_TO_DEST. -/
theorem test_witness_TransferAccepted_offered :
    (∃ d, Offers farm.env none 0 (boarding (standing calm)) d) ∧ ∃ d, Offers farm.env none 0 (toGarage (aboard calm)) d :=
  ⟨⟨_, .taken _ _ (by decide) (by decide +kernel) (.inr ⟨[], accepted (.rowEnd 20) (.rowEnd 21), [], .moveToSource, .move 20 none,
      by decide +kernel, by decide +kernel, by decide +kernel, by decide +kernel,
      by intro d h; cases h; decide +kernel, ⟨rfl, rfl⟩, rfl⟩)⟩,
    ⟨_, .taken _ _ (by decide) (by decide +kernel) (.inr ⟨[], accepted (.carried 0) .garage, [], .moveToDest, .garage (some 5),
      by decide +kernel, by decide +kernel, by decide +kernel, by decide +kernel,
      fun _ h => (nomatch h), ⟨rfl, rfl⟩, rfl⟩)⟩⟩
theorem test_witness_ShuttlesAreMadeLocal :
    Taken .clearShuttle (fromPlant 1) farm ∧ 4 ≤ (4 : Byte).toNat ∧ (farm.blk.shuttle 3).mode ≠ .faulted
      ∧ ((shuttle 3 (fun z => { z with mode := .faulted }) farm).blk.shuttle 3).mode = .faulted
      ∧ Taken .linkResume (fromPlant 0) farm ∧ farm.blk.link.enabled = true ∧ farm.contend = false
      ∧ (block (fun b => { b with link := { b.link with enabled := false } }) farm).blk.link.enabled = false := by
  decide +kernel
theorem test_witness_StepTimeoutAndPolls :
    let s := at' 180 (carrying .moveToDest calm)
    (at' 179 s).blk.expires (at' 179 s).env (.shuttleStep 0) = false ∧ s.blk.expires s.env (.shuttleStep 0) = true
      ∧ (s.blk.shuttle 0).current = some 3 ∧ (s.blk.shuttle 0).queue = [] ++ carriage .moveToDest :: []
      ∧ (carriage .moveToDest).step = .running .moveToDest ∧ (carriage .moveToDest).origin = .fleet
      ∧ (∃ r, (carriage .loading).source = .rowEnd r)
      ∧ (s.blk.shuttle 0).pollDue ≠ some 0
      ∧ ((shuttle 0 (fun z => { z with pollDue := some 0 }) s).blk.shuttle 0).pollDue = some 0 := by decide +kernel
theorem test_witness_ContentionLatches :
    calm.inReset = false ∧ calm.contend = false ∧ calm.blk.link.enabled = true
      ∧ (block (fun b => { b with link := { b.link with enabled := false } }) calm).blk.link.enabled = false := by
  decide +kernel
theorem test_witness_ArbiterServesInTurn :
    let s := block (fun b => b.placeLink 3 .status false) calm
    (∀ u : ShuttleId, calm.blk.link.queue[u] = none) ∧ s.blk.link.enabled = true ∧ s.blk.link.inFlight = none
      ∧ s.blk.link.queue[(3 : ShuttleId)] = some { op := .status, counts := false }
      ∧ (∀ v : ShuttleId, v - s.blk.link.lastServed - 1 < 3 - s.blk.link.lastServed - 1 → s.blk.link.queue[v] = none)
      ∧ s.contend = false ∧ ({ s with contend := true } : State).contend = true
      ∧ ((flying (.load 5 20) calm).blk.link.inFlight = some (flight (.load 5 20))
        ∧ (flight (.load 5 20)).buffer = (flight (.load 5 20)).txn.op.data) := by decide +kernel
theorem test_witness_CompletionIsHandedBack :
    let s := flying .status calm
    let dead := shuttle 0 (fun z => { z with mode := .offline }) s
    calm.blk.link.inFlight = none ∧ s.blk.link.inFlight = some (flight .status)
      ∧ (flying (.garage none) calm).blk.link.inFlight = some (flight (.garage none))
      ∧ (flight (.garage none)).txn.op ≠ .status ∧ (flight .status).discard = false
      ∧ (dead.blk.shuttle 0).mode = .offline
      ∧ readStatus (s.blk.shuttle 0) { answer with state := 4 } = none
      ∧ readStatus (s.blk.shuttle 0) answer = some (seen 20 none)
      ∧ (s.blk.shuttle 0).mode = .idle ∧ (s.blk.shuttle 0).load = none
      ∧ readStatus (s.blk.shuttle 0) { answer with state := 3 } = some { seen 20 none with state := .fault }
      ∧ readStatus (s.blk.shuttle 0) { answer with load := 5 } = some (seen 20 (some 5)) := by decide +kernel
/-- Shuttle 0 is LOCAL and its first status comes. -/
def asked (s : State) : State := flying .status (shuttle 0 (fun z => { z with mode := .localUnknown }) s)
theorem test_witness_FirstStatusSettlesTheShuttle :
    let lost := { queued .fleet with source := .carried 0 }
    (asked calm).Shows answer 0 (seen 20 none) ∧ (asked (standing calm)).Shows { answer with load := 5 } 0 (seen 20 (some 5))
      ∧ (((asked calm).blk.shuttle 0).mode = .localUnknown ∧ ((asked calm).blk.shuttle 0).current = none)
      ∧ readStatus ((asked calm).blk.shuttle 0) { answer with state := 3 } = some { seen 20 none with state := .fault }
      ∧ (((asked (aboard calm)).blk.robot 5).location = .carried 0
          ∧ ∀ j, j ≠ 5 → ((asked (aboard calm)).blk.robot j).location ≠ .carried 0)
      ∧ (((asked (standing calm)).blk.robot 5).mode = .idle
          ∧ (∀ r, ((asked (standing calm)).blk.row r).holder ≠ some 5)
          ∧ ∃ lo hi, ((asked (standing calm)).blk.shuttle 0).range = some (lo, hi) ∧ lo.val ≤ (20 : RowId).val / 16
              ∧ (20 : RowId).val / 16 ≤ hi.val)
      ∧ (asked (standing calm)).blk.GarageTaken 0 5 .lost (asked (standing calm)).blk
      ∧ ((asked calm).blk.robot 5).location = .nowhere ∧ (∀ k, ((asked calm).blk.robot k).location ≠ .carried 0)
      ∧ (((shuttle 0 (fun z => { z with queue := [lost] }) (asked (robot 5 (fun z => { z with transfer := some 4 })
            (aboard calm)))).blk.shuttle 0).queue = [] ++ lost :: [] ∧ lost.tag = 4 ∧ lost.step = .queued) :=
  ⟨⟨rfl, by decide +kernel, flight .status, rfl, rfl, rfl, rfl⟩, ⟨rfl, by decide +kernel, flight .status, rfl, rfl, rfl, rfl⟩,
    by decide +kernel, by decide +kernel, by decide +kernel, ⟨by decide +kernel, by decide +kernel, 0, 1, by decide +kernel⟩,
    .inl ⟨by decide +kernel, rfl⟩, by decide +kernel, by decide +kernel, by decide +kernel⟩
/-- An offer with no record, and one whose record starts. -/
theorem test_witness_Offered :
    let b := (standing calm).blk
    let c := b.modShuttle 0 fun z => { z with queue := [queued .fleet] }
    b.Offered farm.env 0 b ∧ ∃ d, c.Offered farm.env 0 d :=
  ⟨.inl ⟨by decide +kernel, rfl⟩, _, .inr ⟨[], queued .fleet, [], .moveToSource, .move 20 none,
    by decide +kernel, by decide +kernel, by decide +kernel, by decide +kernel, by
      intro d h; cases h; decide +kernel, ⟨rfl, rfl⟩, rfl⟩⟩
/-- The transfer of robot 5 that the contention fault left IN_DOUBT at a step. -/
def doubted (x : RunStep) (origin : Origin) : Transfer :=
  { carriage x with origin := origin, step := .inDoubt x }
def doubting (x : RunStep) (origin : Origin) (s : State) : State :=
  asked (shuttle 0 (fun z => { z with queue := [doubted x origin] }) (carrying x s))
theorem test_witness_ReconciliationPlacesTheRobot :
    let s := doubting .loading .charge calm
    let t := doubted .loading .charge
    let a := ((s.shown 0 (seen 20 (some 5))).doubtFailed 0 t []).foundAboard 0 t false
    let carried := robot 5 (fun z => { z with mode := .carried, location := .carried 0 }) (doubting .unloading .park calm)
    s.Shows { answer with load := 5 } 0 (seen 20 (some 5)) ∧ s.Shows answer 0 (seen 20 none)
      ∧ ((s.blk.shuttle 0).mode = .localUnknown ∧ (s.blk.shuttle 0).current = some t.tag
          ∧ (s.blk.shuttle 0).queue = [] ++ t :: [] ∧ t.step = .inDoubt .loading ∧ t.origin ≠ .round)
      ∧ (a.RecoverTo s.env 0 t 20 20 ∧ a.LowestFree 0)
      ∧ (∀ d, ¬ ((a.modRow 20 fun y => { y with locked := some .plant }).modRow 21 fun y =>
            { y with locked := some .plant }).RecoverTo s.env 0 t 20 d)
      ∧ readStatus (s.blk.shuttle 0) { answer with load := 5, flags := 1 } = some { seen 20 (some 5) with garage := true }
      ∧ a.GarageTaken 0 5 .link a
      ∧ ((∀ j, j ≠ 5 → (s.blk.robot j).location ≠ .carried 0) ∧ s.blk.RestsIdle 5
          ∧ (s.blk.robot 5).location = .rowEnd 20 ∧ (s.blk.robot 5).mode = .waitTransfer)
      ∧ ((carried.env.row 21).present = true ∧ (carried.blk.row 21).reservation = some (doubted .unloading .park).tag
          ∧ carried.blk.storm = false ∧ carried.blk.RestsIdle 5)
      ∧ (carried.blk.row 20).occupant ≠ none :=
  ⟨⟨rfl, by decide +kernel, flight .status, rfl, rfl, rfl, rfl⟩, ⟨rfl, by decide +kernel, flight .status, rfl, rfl, rfl, rfl⟩,
    by decide +kernel, ⟨.inl (by decide +kernel), by decide +kernel⟩, by decide +kernel, by decide +kernel,
    .inl ⟨by decide +kernel, rfl⟩, by decide +kernel, by decide +kernel, by decide +kernel⟩
/-- The worked sequence of chapter 5 with the robot not boarded: it is IDLE at its end with TRANSFER_FAILED (LINK), and the
record, its reservation and its tag are gone. -/
theorem test_reconciled_ashore :
    let t := nextOf (exec (.transactionCompletion answer) (doubting .loading .fleet calm))
    (t.blk.robot 5).mode = .idle ∧ (t.blk.robot 5).outcome = .transferFailed .link ∧ (t.blk.shuttle 0).queue = []
      ∧ (t.blk.row 21).reservation = none ∧ (t.blk.row 20).occupant = some 5 := by decide +kernel
/-- The worked sequence of chapter 5 with the robot aboard: the RECOVERY record takes tag 0 and UNLOADING starts at once. -/
theorem test_reconciled_aboard :
    let t := nextOf (exec (.transactionCompletion { answer with load := 5 }) (doubting .loading .fleet calm))
    (t.blk.shuttle 0).queue = [⟨0, 5, .carried 0, .rowEnd 20, .recovery, .running .unloading⟩]
      ∧ (t.blk.row 20).reservation = some 0 := by decide +kernel
theorem test_witness_StatusCompletesTheStep :
    let s := fun x : RunStep => flying .status (carrying x calm)
    let z := fun x => (s x).blk.shuttle 0
    (s .loading).blk.link.inFlight = some (flight .status) ∧ (z .loading).mode = .moving
      ∧ (z .loading).current = some (carriage .loading).tag ∧ (z .loading).queue = [carriage .loading]
      ∧ readStatus (z .moveToSource) answer = some (seen 20 none)
      ∧ readStatus (z .loading) { answer with load := 5 } = some (seen 20 (some 5))
      ∧ readStatus (z .moveToDest) { answer with position := 21, load := 5 } = some (seen 21 (some 5))
      ∧ readStatus (z .unloading) { answer with position := 21 } = some (seen 21 none)
      ∧ ((flight .status).txn.counts = true ∧ (seen 20 none).state = .ready)
      ∧ readStatus (z .loading) { answer with state := 3 } = some { seen 20 none with state := .fault }
      ∧ readStatus (z .loading) { answer with state := 2 } = some { seen 20 none with state := .working } := by decide +kernel
/-- The DONE at the end of row 21, and in the garage: the robot comes to rest, no charge plan waits, and the offer finds no record. -/
def doneAt : Block :=
  ((((((flying .status (carrying .unloading calm)).shown 0 (seen 21 none)).cancel (.shuttleStep 0)).modShuttle 0 fun w =>
    { w with mode := .idle, commandSent := false, load := none, current := none, queue := [] }).modRow 21 fun w =>
    { w with reservation := none, occupant := some 5 }).modRobot 5 fun w =>
    { w with location := .rowEnd 21, transfer := none, mode := .idle })
def doneInGarage : Block :=
  ((((flying .status (carrying .moveToDest calm)).shown 0 { seen 20 (some 5) with garage := true }).cancel
    (.shuttleStep 0)).modShuttle 0 fun w =>
    { w with mode := .idle, commandSent := false, current := none, queue := [] }).modRobot 5 fun w =>
    { w with transfer := none, inGarage := true, order := .attend }
theorem test_witness_StatusCompletesTheStep_done :
    (ComesToRest farm.env (some 0) 5 doneAt doneAt
        ∧ InTurn (ChargeRetried farm.env (some 0)) (List.finRange 24) doneAt doneAt
        ∧ PassMade farm.env (some 0) doneAt doneAt ∧ Offers farm.env none 0 doneAt doneAt)
      ∧ readStatus ((carrying .moveToDest calm).blk.shuttle 0) { answer with flags := 1, load := 5 }
          = some { seen 20 (some 5) with garage := true }
      ∧ InTurn (ChargeRetried farm.env (some 0)) (List.finRange 24) doneInGarage doneInGarage
      ∧ PassMade farm.env (some 0) doneInGarage doneInGarage ∧ Offers farm.env none 0 doneInGarage doneInGarage :=
  have nowaits : ∀ k, (doneAt.robot k).chargeWait = false := by decide +kernel
  have nowaits' : ∀ k, (doneInGarage.robot k).chargeWait = false := by decide +kernel
  ⟨⟨comesToRest_idle (by decide +kernel), inTurn_same fun k _ => chargeRetried_none (nowaits k), passMade_calm (by decide +kernel),
      .taken _ _ (by decide) (by decide +kernel) (.inl ⟨by decide +kernel, rfl⟩)⟩,
    by decide +kernel, inTurn_same fun k _ => chargeRetried_none (nowaits' k), passMade_calm (by decide +kernel),
    .taken _ _ (by decide) (by decide +kernel) (.inl ⟨by decide +kernel, rfl⟩)⟩
/-- A charge plan that waits is retried at a cradle, where the robot charges. -/
theorem test_witness_StatusCompletesTheStep_retried :
    let s := data 20 (fun d => { d with cradle := true }) (robot 5 (fun z => { z with stack := [.charge], chargeWait := true })
      (standing calm))
    (s.blk.robot 5).IdleAt 20
      ∧ ChargePlanned s.env (some 0) 5 20 s.blk (s.blk.modRobot 5 fun z => { z with chargeWait := false }) :=
  ⟨by decide +kernel, .inl ⟨by decide +kernel, rfl⟩⟩
/-- A source CARRIED: MOVE_TO_DEST is its first step, and the status that ends it. -/
theorem test_witness_StatusCompletesTheStep_carried :
    let t := { carriage .moveToDest with source := .carried 0 }
    let s := flying .status (shuttle 0 (fun z => { z with queue := [t] }) (aboard (carrying .moveToDest calm)))
    (s.blk.shuttle 0).current = some t.tag ∧ (s.blk.shuttle 0).queue = [] ++ t :: [] ∧ t.step = .running .moveToDest
      ∧ t.dest = .rowEnd 21
      ∧ readStatus (s.blk.shuttle 0) { answer with position := 21, load := 5 } = some (seen 21 (some 5)) := by decide +kernel
theorem test_witness_OutputReportIsAccepted :
    let two := { farm with plant := { farm.plant with replies := List.replicate 2 ⟨0, 2, 0, []⟩ } }
    let three := { farm with plant := { farm.plant with replies := List.replicate 3 ⟨0, 2, 0, []⟩ } }
    Taken .outputReport (fromPlant 197) farm ∧ Taken .outputReport (fromPlant 197) three
      ∧ (Instr.outputReport (fromPlant 197) 200 901 64 (List.replicate 64 (20, 5))).WellFormed
      ∧ (1 ≤ (64 : Byte).toNat ∧ (64 : Byte).toNat ≤ 64 ∧ (fromPlant 197).len.toNat = 5 + 3 * (64 : Byte).toNat)
      ∧ ¬ (1 ≤ (0 : Byte).toNat) ∧ (901 : BitVec 16) ≠ 0 ∧ farm.inFlight = none ∧ 2 ≤ two.freePlaces .plant
      ∧ ¬ 2 ≤ three.freePlaces .plant := by decide +kernel
theorem test_witness_RowStepTakesTheStages :
    let s := reported 200 1 farm
    let held := row 20 (fun x => { x with tracker := .held }) s
    s.inReset = false ∧ s.mastA.pending = none ∧ s.mastB.pending = none ∧ s.inFlight = some (report 200 1)
      ∧ (report 200 1).pairs[(report 200 1).next - 1]? = some (20, 2310)
      ∧ (report 200 2).pairs[(report 200 2).next - 1]? = some (22, 3) ∧ (s.env.row 22).present = false
      ∧ (s.env.row 20).present = true ∧ (report 199 1).pref < s.env.params.lightFloor
      ∧ s.env.params.lightFloor ≤ (report 200 1).pref ∧ (held.blk.row 20).tracker = .held
      ∧ ((s.blk.row 20).tracker = .tracking ∧ (s.env.row 20).holdSeconds = 0)
      ∧ (gusty 0 farm).mastA.pending ≠ none ∧ farm.inFlight = none := by decide +kernel
theorem test_witness_CalibrateRowRestarts :
    Taken .calibrateRow (fromPlant 3) farm ∧ (farm.env.row 20).present = true := by decide +kernel
theorem test_witness_BanksAreClosedResetAndRead :
    Taken .closePeriod (fromPlant 0) State.reset ∧ Taken .resetAccounts (fromPlant 0) State.reset
      ∧ Taken .readLive (fromPlant 0) State.reset ∧ State.reset.live.InRange ∧ Taken .readPeriod (fromPlant 0) State.reset
      ∧ State.reset.closed.bank.InRange := by decide +kernel
theorem test_witness_PulsesAndTicks :
    let s := shuttle 0 (fun z => { z with pollDue := some 1 }) (at' 119 (waiting calm))
    s.inReset = false ∧ (∀ d ∈ s.blk.deadlines, d.remaining s.env.now ≠ 0)
      ∧ ∀ u, (s.blk.shuttle u).pollDue ≠ some 0 := by decide +kernel
theorem test_witness_MastStepAndLevels :
    (gusty 16 calm).mastA.pending = some 16
      ∧ ({ calm with mastB := { calm.mastB with pending := some 0 } } : State).mastA.pending = none
      ∧ runs (exec .mastStep (gusty 16 calm)) = true
      ∧ ((gusty 16 calm).mastB.health = .faulted ∧ (gusty 16 calm).mastA.health = .healthy) := by decide +kernel
theorem test_witness_LevelIsHanded :
    let s := gusty 16 calm
    let filling := { farm with
      mastA := { farm.mastA with pending := some 1, ring := List.replicate 59 0 } }
    s.servedMast = some (.a, 16) ∧ (s.stepMast .a 16).windLevel = .watch ∧ s.blk.weather = .calm
      ∧ filling.servedMast = some (.a, 1) ∧ (filling.stepMast .a 1).windLevel = .none ∧ filling.blk.weather = .start
      ∧ (filling.mast .a).ring.length ≠ 60 ∧ ((filling.stepMast .a 1).mast .a).ring.length = 60
      ∧ Level.watch.place ≤ (block (fun b => { b with weather := .watch }) s).blk.weather.rank
      ∧ Taken .configure (fromPlant 5) s := by decide +kernel
theorem test_witness_LevelIsHanded_tested :
    CalmEntered farm.env (farm.blk.handed farm.env .none) (farm.blk.handed farm.env .none).calmed
      ∧ ((recovering.blk.handed farm.env .none).LeavesRecover farm.env
        ∧ CalmEntered farm.env (recovering.blk.handed farm.env .none) (recovering.blk.handed farm.env .none).calmed)
      ∧ ¬ (calm.blk.handed farm.env .watch).LeavesRecover farm.env :=
  ⟨calmEntered_alone (by decide +kernel), ⟨by decide +kernel, calmEntered_alone (by decide +kernel)⟩, by decide +kernel⟩
theorem test_witness_LevelIsHanded_threshold :
    ∃ x ∈ paramTable, (0x18 : Byte).toNat = x.number ∧ 0x13 ≤ x.number ∧ x.number ≤ 0x18
      ∧ x.Stored 1001 calm.env.params { calm.env.params with stowSustained := 1000 } := by decide +kernel
/-- No shuttle takes work now: shuttle 0 runs a step, and a NORMAL record of robot 5 waits behind it. -/
theorem test_witness_WeatherFollowsTheLevel :
    let s := gusty 27 (waitingQueued (riding calm))
    s.inReset = false ∧ s.servedMast = some (.a, 27) ∧ s.blk.EntersPlainly ∧ (s.stepMast .a 27).windLevel = .stow
      ∧ s.blk.weather.rank < Level.stow.place ∧ ((gusty 21 calm).stepMast .a 21).windLevel = .park
      ∧ s.blk.normalsQueued = [(0, queued .fleet)] ∧ Taken .configure (fromPlant 5) s := by decide +kernel
/-- The pass of the entry of STOW plans robot 5, IDLE at its end again, whose transfer failed STORM. -/
theorem test_witness_WeatherFollowsTheLevel_pass :
    let b := (gusty 27 (waitingQueued (riding calm))).blk.stormEntered farm.env .stow
    PassMade farm.env none b (planRobot farm.env 5 b).1 :=
  passMade_one (by decide +kernel) (by decide +kernel) (planned_occupied (u := 0) (by decide +kernel) (by decide +kernel))
theorem test_witness_WeatherFollowsTheLevel_threshold :
    let s := gusty 27 (waitingQueued (riding calm))
    (∃ x ∈ paramTable, (0x17 : Byte).toNat = x.number ∧ 0x13 ≤ x.number ∧ x.number ≤ 0x18
        ∧ x.Stored 50 s.env.params { s.env.params with stowGust := 50 })
      ∧ blockLevel { s.env.params with stowGust := 50 } s.mastA s.mastB = .stow := by decide +kernel
theorem test_witness_ParkPlanSeeksAPlace :
    let parks := fun (g : Robot → Robot) => robot 5 (fun z => { g z with stack := [.park] }) (standing parked)
    let b := (parks id).blk
    let braced := (parks fun z => { z with mode := .braced }).blk
    let busy := (row 21 (fun x => { x with occupant := some 7 }) (parks id)).blk
    (b.storm = true ∧ calm.blk.storm = false ∧ (braced.robot 5).mode = .braced)
      ∧ ((b.robot 5).transfer = none ∧ (b.robot 5).order = .none ∧ (b.robot 5).mode = .idle ∧ (b.robot 5).location = .rowEnd 20)
      ∧ ((farm.env.row 20).cradle = false ∧ (farm.env.row 21).cradle = true ∧ (farm.env.row 20).shuttle = some 0)
      ∧ (b.ParkPlace farm.env 0 (some 20) (.rowEnd 21) ∧ b.ParkPlace farm.env 0 none (.rowEnd 21)
        ∧ busy.ParkPlace farm.env 0 (some 20) .garage)
      ∧ ((b.shuttle 0).queue.length < 8 ∧ b.LowestFree 0 ∧ (b.shuttle 0).queue = [] ++ [])
      ∧ 8 ≤ ((b.modShuttle 0 fun z => { z with queue := List.replicate 8 (queued .park) }).shuttle 0).queue.length
      ∧ ((aboard parked).blk.robot 5).location = .carried 0 ∧ ((aboard parked).blk.robot 5).inGarage = false
      ∧ ((riding parked).blk.robot 5).mode = .onRow ∧ ((waiting parked).blk.robot 5).mode = .waitHold :=
  ⟨by decide +kernel, by decide +kernel, by decide +kernel, ⟨by decide +kernel, by decide +kernel, by decide +kernel⟩,
    by decide +kernel, by decide +kernel, by decide +kernel⟩
theorem test_witness_BracedReleasesTheRow :
    let s := still (riding parked)
    Taken .braced (fromFleet 1) s ∧ (parked.blk.robot 5).mode = .absent
      ∧ ((robot 5 (fun z => { z with mode := .braced }) s).blk.robot 5).mode = .braced
      ∧ (((waiting calm).blk.row 20).holder = some 5 ∧ ((waiting calm).blk.row 20).tracker = .holdPending)
      ∧ ((s.blk.robot 5).mode = .onRow ∧ (s.blk.robot 5).location = .onRow 20)
      ∧ (∀ r, (s.blk.row r).holder = some 5 → r = 20) ∧ (s.blk.row 20).tracker ≠ .holdPending ∧ s.blk.storm = true
      ∧ (∀ u, s.blk.Occupied u) ∧ calm.blk.storm = false
      ∧ ∀ r, ((standing parked).blk.row r).holder ≠ some 5 := by decide +kernel
theorem test_witness_UnbracedReturnsTheHold :
    let b := robot 5 (fun z => { z with mode := .braced })
    let s := b (riding calm)
    Taken .unbraced (fromFleet 1) s ∧ ((riding calm).blk.robot 5).mode ≠ .braced ∧ (s.blk.robot 5).mode = .braced
      ∧ s.blk.storm = false ∧ (s.blk.row 20).holder = some 5
      ∧ (∀ r, (s.blk.row r).holder = some 5 → r = 20) ∧ (s.blk.row 20).tracker ≠ .stowed
      ∧ ((row 20 (fun x => { x with tracker := .stowed }) s).blk.row 20).tracker = .stowed
      ∧ (∀ r, ((b (standing calm)).blk.row r).holder ≠ some 5) ∧ ((b (standing calm)).blk.robot 5).stack = []
      ∧ ((b (still (standing parked))).blk.storm = true ∧ ∀ u, (b (still (standing parked))).blk.Occupied u)
      ∧ ¬ s.blk.LeavesRecover s.env := by decide +kernel
/-- R168: the pass after UNBRACED stands in place of the plan of robot 5 alone, so robot 4 takes the one cradle. -/
theorem test_pass_in_place_of_the_plan :
    let t := nextOf (exec (.unbraced (fromFleet 1) 5)
      (robot 4 (fun z => { z with mode := .carried, location := .carried 0, stack := [.park] })
        (robot 5 (fun z => { z with mode := .braced, stack := [.park] }) (standing parked))))
    (t.blk.shuttle 0).queue.map (fun x => (x.robot, x.dest)) = [(4, .rowEnd 21), (5, .garage)] := by decide +kernel
theorem test_witness_ParkDeadlineOrdersBrace :
    let s := at' 600 (block (fun b => b.arm parked.env .parkDeadline 600) (robot 5 (fun z => { z with stack := [.park] })
      (riding parked)))
    (at' 599 s).blk.expires (at' 599 s).env .parkDeadline = false ∧ s.blk.expires s.env .parkDeadline = true
      ∧ ∀ k, RobotTask.park ∈ (s.blk.robot k).stack → (s.blk.robot k).transfer = none := by decide +kernel
theorem test_witness_CalmHoldoffEndsTheWeather :
    let s := fun (w : Weather) (x : Tracker) => at' 1800 (block (fun b => { b.arm farm.env .calmHoldoff 1800 with weather := w })
      (row 20 (fun y => { y with tracker := x }) (standing farm)))
    let b := fun (w : Weather) (x : Tracker) => ((s w x).blk.cancel .calmHoldoff).recoverEntered farm.env
    (at' 1799 (s .stow .stowed)).blk.expires (at' 1799 (s .stow .stowed)).env .calmHoldoff = false
      ∧ (s .watch .tracking).blk.expires (s .watch .tracking).env .calmHoldoff = true
      ∧ (s .watch .tracking).blk.weather = .watch
      ∧ (s .stow .stowed).blk.expires (s .stow .stowed).env .calmHoldoff = true ∧ (s .stow .stowed).blk.weather = .stow
      ∧ ¬ (b .stow .stowed).LeavesRecover farm.env ∧ (b .park .tracking).LeavesRecover farm.env := by decide +kernel
theorem test_witness_CalmHoldoffEndsTheWeather_calms :
    (∀ k, ((standing farm).blk.robot k).CalmsAlone)
      ∧ ∀ k, (((standing farm).blk.recoverEntered farm.env).robot k).CalmsAlone := by decide +kernel
/-- CALM entry from RECOVER, as from WATCH, with a round under the PARK task of robot 5. -/
theorem test_witness_CalmHoldoffEndsTheWeather_recover :
    let s := at' 1800 (block (fun b => { b.arm farm.env .calmHoldoff 1800 with weather := .park })
      (withStack [.park, .round (oneRow false)] (standing farm)))
    let b := (s.blk.cancel .calmHoldoff).recoverEntered s.env
    s.blk.expires s.env .calmHoldoff = true ∧ b.LeavesRecover s.env ∧ (b.robot 5).stack = [.park, .round (oneRow false)]
      ∧ (∀ j, j ≠ 5 → (b.robot j).CalmsAlone) ∧ (b.robot 5).IdleAt 20
      ∧ ((b.row 20).locked = none ∧ (b.row 20).stranded = false ∧ (b.row 20).faultNoted = false
          ∧ (b.row 20).tracker = .tracking ∧ (b.row 20).holder = none ∧ (b.row 20).reservedBy = none) := by decide +kernel
theorem test_witness_CalmHoldoffEndsTheWeather_tasks :
    let s := fun stack => data 20 (fun d => { d with cradle := true }) (robot 5 (fun z => { z with stack := stack }) (standing farm))
    let round := (s [.park, .round (oneRow false)]).blk
    let charge := s [.park, .charge]
    (∀ j, j ≠ 5 → (round.robot j).CalmsAlone) ∧ (round.robot 5).mode = .idle ∧ (round.robot 5).location = .rowEnd 20
      ∧ (oneRow false).entries = [] ++ { row := 20, state := .pending, entered := false, reason := none } :: []
      ∧ ((round.row 20).locked = none ∧ (round.row 20).stranded = false ∧ (round.row 20).faultNoted = false
          ∧ (round.row 20).tracker = .tracking ∧ (round.row 20).holder = none ∧ (round.row 20).reservedBy = none)
      ∧ (oneRow true).paused = true ∧ (charge.env.row 20).cradle = true := by decide +kernel
/-- The premises of the statements that a step keeps a law, in a state with a holder, a deadline, a report and a wind sample;
and a step from it. -/
def lively : State := { reported 200 1 (gusty 16 (riding calm)) with pending := [.mastStep] }
theorem test_witness_a_step_from_the_laws : runs (step lively) = true := by decide +kernel
theorem test_witness_MastsAndStowdStayAgreed : lively.MastsInRange ∧ lively.blk.StowdAgrees := by decide +kernel
theorem test_witness_FiguresStayInRange : lively.FiguresInRange ∧ lively.BanksInRange :=
  ⟨⟨by decide +kernel, by decide +kernel, by decide +kernel, by decide +kernel⟩, by decide +kernel⟩
theorem test_witness_NoAccumulatorDecreases :
    lively.FiguresInRange ∧ lively.BanksInRange ∧ runs (exec .mastStep lively) = true :=
  ⟨test_witness_FiguresStayInRange.1, test_witness_FiguresStayInRange.2, by decide +kernel⟩
theorem test_witness_MarksStayAgreed : lively.blk.MarksAgree := by decide +kernel
theorem test_witness_ListsAndQueuesStayInRange :
    lively.blk.KeysDistinct ∧ lively.blk.LinkAgrees ∧ lively.blk.DownAreSilent ∧ lively.blk.TransfersInRange
      ∧ lively.PlacesInRange :=
  ⟨by decide +kernel, by decide +kernel, by decide +kernel, by decide +kernel, by intro p; cases p <;> decide +kernel⟩
theorem test_witness_ClaimsStayAgreed :
    lively.blk.HoldsAgree lively.env ∧ lively.blk.RecordsAgree lively.env
      ∧ ∀ f robot, lively.pending.head? ≠ some (.braced f robot) :=
  have empty : ∀ u, (lively.blk.shuttle u).queue = [] := by decide +kernel
  have ashore : ∀ k u, (lively.blk.robot k).location ≠ .carried u := by decide +kernel
  ⟨by decide +kernel,
    ⟨by decide +kernel,
      fun k => ⟨by revert k; decide +kernel, by revert k; decide +kernel, fun u _ h _ => absurd h (ashore k u)⟩,
      fun u t h => absurd (empty u ▸ h) (List.not_mem_nil)⟩,
    by intro f r h; cases h⟩

end Sys2Proof.Tests
end

section
/-! PROOF. The laws of the lists and queues (R15, R62, R64, R84, R85): what each change of the deadline list, of a shuttle
and of the link keeps of them. -/

namespace Sys2Proof.Machine

open Sys2Proof

/-! ## Tags in use -/

/-- The tags of a shuttle's queue. -/
def Shuttle.tags (x : Shuttle) : List Tag := x.queue.map Transfer.tag

theorem Shuttle.mem_tags {x : Shuttle} {t : Transfer} (h : t ∈ x.queue) : t.tag ∈ x.tags := List.mem_map_of_mem h

theorem mem_usedTags {b : Block} {g : Tag} : g ∈ b.usedTags ↔ ∃ u, g ∈ (b.shuttle u).tags := by
  simp [Block.usedTags, allShuttles, Shuttle.tags]

/-- No tag is used twice (R62): not within a queue, and not in two queues. -/
theorem usedTags_nodup_iff (b : Block) :
    b.usedTags.Nodup ↔ (∀ u, (b.shuttle u).tags.Nodup) ∧ ∀ u v, u ≠ v → (b.shuttle u).tags.Disjoint (b.shuttle v).tags := by
  have symm : Std.Symm (Function.onFun List.Disjoint fun u => (b.shuttle u).queue.map Transfer.tag) := ⟨fun _ _ h => h.symm⟩
  refine List.nodup_flatMap.trans (and_congr ⟨fun h u => h u (List.mem_finRange u), fun h u _ => h u⟩ ⟨?_, ?_⟩)
  · exact fun h u v huv => h.forall (List.mem_finRange u) (List.mem_finRange v) huv
  · exact fun h => (List.nodup_finRange 4).imp fun {u v} huv => h u v huv

/-- Two records of the queues with one tag are one record of one queue. -/
theorem record_unique {b : Block} (h : b.usedTags.Nodup) {u v : ShuttleId} {t y : Transfer} (ht : t ∈ (b.shuttle u).queue)
    (hy : y ∈ (b.shuttle v).queue) (e : y.tag = t.tag) : v = u ∧ y = t := by
  obtain ⟨each, apart⟩ := (usedTags_nodup_iff b).mp h
  have huv : v = u := by
    by_contra hne
    exact apart v u hne (Shuttle.mem_tags hy) (e ▸ Shuttle.mem_tags ht)
  subst huv
  exact ⟨rfl, List.inj_on_of_nodup_map (each v) hy ht e⟩

/-- Where every queue's tags come from the queue before, no tag is used twice after a change. -/
theorem usedTags_nodup_of_subperm {b c : Block} (tags : ∀ u, (c.shuttle u).tags.Subperm (b.shuttle u).tags)
    (h : b.usedTags.Nodup) : c.usedTags.Nodup := by
  rw [usedTags_nodup_iff] at h ⊢
  obtain ⟨each, apart⟩ := h
  refine ⟨fun u => ?_, fun u v huv g hu hv => apart u v huv ((tags u).subset hu) ((tags v).subset hv)⟩
  obtain ⟨l, perm, sub⟩ := tags u
  exact perm.nodup_iff.mp ((each u).sublist sub)

theorem placeBefore_perm (stop : Transfer → Bool) (t : Transfer) (q : List Transfer) : (placeBefore stop t q).Perm (t :: q) := by
  induction q with
  | nil => exact .refl _
  | cons x xs ih =>
    unfold placeBefore
    split
    · exact .refl _
    · exact (ih.cons x).trans (.swap t x xs)

/-- A placed record stands in the queue once, beside those that stood there (R68). -/
theorem placeRecord_perm (t : Transfer) (q : List Transfer) : (placeRecord t q).Perm (t :: q) := by
  unfold placeRecord
  split
  · exact placeBefore_perm _ t q
  · exact placeBefore_perm _ t q
  all_goals exact List.perm_append_comm

theorem mem_placeRecord {t y : Transfer} {q : List Transfer} : y ∈ placeRecord t q ↔ y = t ∨ y ∈ q := by
  rw [(placeRecord_perm t q).mem_iff, List.mem_cons]

@[simp] theorem mem_setStep {g : Tag} {st : TransferStep} {q : List Transfer} {y : Transfer} :
    y ∈ setStep g st q ↔ ∃ z ∈ q, (if z.tag = g then { z with step := st } else z) = y := by simp [setStep]

/-- A step changes no tag. -/
theorem setStep_tags (g : Tag) (st : TransferStep) (q : List Transfer) :
    (setStep g st q).map Transfer.tag = q.map Transfer.tag := by
  simp only [setStep, List.map_map]
  refine List.map_congr_left fun z _ => ?_
  simp only [Function.comp]
  split <;> rfl

/-- A free tag is the tag of no record (R62). -/
theorem freeTag_unused {b : Block} {g : Tag} (h : b.freeTag = some g) : g ∉ b.usedTags := by
  have := List.find?_some h
  simpa using this

/-- Where a free tag is given to a record placed in one queue, no tag is used twice. -/
theorem usedTags_nodup_place {b c : Block} {s : ShuttleId} {z : Transfer} (unused : z.tag ∉ b.usedTags)
    (queue : (c.shuttle s).queue = placeRecord z (b.shuttle s).queue) (others : ∀ u, u ≠ s → c.shuttle u = b.shuttle u)
    (h : b.usedTags.Nodup) : c.usedTags.Nodup := by
  have fresh : ∀ u, z.tag ∉ (b.shuttle u).tags := fun u hu => unused (mem_usedTags.mpr ⟨u, hu⟩)
  have perm : (c.shuttle s).tags.Perm (z.tag :: (b.shuttle s).tags) := by
    unfold Shuttle.tags
    rw [queue]
    exact (placeRecord_perm z _).map Transfer.tag
  have split : ∀ u g, g ∈ (c.shuttle u).tags → (u = s ∧ g = z.tag) ∨ g ∈ (b.shuttle u).tags := by
    intro u g hg
    by_cases hu : u = s
    · subst hu
      exact (List.mem_cons.mp (perm.mem_iff.mp hg)).imp (fun h => ⟨rfl, h⟩) id
    · exact .inr (others u hu ▸ hg)
  rw [usedTags_nodup_iff] at h ⊢
  obtain ⟨each, apart⟩ := h
  refine ⟨fun u => ?_, fun u v huv g hu hv => ?_⟩
  · by_cases hu : u = s
    · subst hu
      exact perm.nodup_iff.mpr (List.nodup_cons.mpr ⟨fresh u, each u⟩)
    · rw [others u hu]
      exact each u
  · obtain ⟨hus, hgu⟩ | hgu := split u g hu <;> obtain ⟨hvs, hgv⟩ | hgv := split v g hv
    · exact huv (hus.trans hvs.symm)
    · exact fresh v (hgu ▸ hgv)
    · exact fresh u (hgv ▸ hgu)
    · exact apart u v huv hgu hgv

/-! ## What a change keeps -/

/-- A shuttle is FAULTED or OFFLINE: it is neither polled nor commanded (R64). -/
def Shuttle.Down (x : Shuttle) : Prop := x.mode = .faulted ∨ x.mode = .offline

/-- From `b` to `c` each law of the lists and queues is kept for itself. -/
structure ListsKept (b c : Block) : Prop where
  keys  : b.KeysDistinct → c.KeysDistinct
  link  : b.LinkAgrees → c.LinkAgrees
  down  : b.DownAreSilent → c.DownAreSilent
  range : b.TransfersInRange → c.TransfersInRange

namespace ListsKept

variable {a b c : Block}

theorem refl (b : Block) : ListsKept b b := ⟨id, id, id, id⟩

theorem trans (h : ListsKept a b) (h' : ListsKept b c) : ListsKept a c :=
  ⟨h'.keys ∘ h.keys, h'.link ∘ h.link, h'.down ∘ h.down, h'.range ∘ h.range⟩

/-- The laws speak of the deadline list, the link and the shuttles alone. -/
theorem of_eq (deadlines : c.deadlines = b.deadlines) (link : c.link = b.link) (shuttles : c.shuttles = b.shuttles) :
    ListsKept b c := by
  have shuttle : c.shuttle = b.shuttle := funext fun u => by unfold Block.shuttle; rw [shuttles]
  constructor
  · unfold Block.KeysDistinct; rw [deadlines]; exact id
  · unfold Block.LinkAgrees; rw [link]; exact id
  · unfold Block.DownAreSilent; rw [link, shuttle]; exact id
  · unfold Block.TransfersInRange Block.usedTags; rw [shuttle]; exact id

/-- A change of the deadline list alone. -/
theorem of_deadlines {l : List Deadline} (keys : b.KeysDistinct → ({ b with deadlines := l } : Block).KeysDistinct) :
    ListsKept b { b with deadlines := l } := ⟨keys, id, id, id⟩

/-- A change of the link alone. -/
theorem of_link {l : Link} (link : b.LinkAgrees → ({ b with link := l } : Block).LinkAgrees)
    (down : ∀ u, (b.shuttle u).Down → b.link.queue[u] = none → l.queue[u] = none) : ListsKept b { b with link := l } :=
  ⟨id, link, fun h u hu => ⟨(h u hu).1, down u hu (h u hu).2⟩, id⟩

/-- A change of the shuttles alone that places no record and silences what it takes down. -/
theorem of_shuttles {t : Vector Shuttle 4} (c : Block) (hc : c = { b with shuttles := t })
    (down : ∀ u, (c.shuttle u).Down → (b.shuttle u).Down ∧ ((b.shuttle u).pollDue = none → (c.shuttle u).pollDue = none))
    (tags : ∀ u, (c.shuttle u).tags.Subperm (b.shuttle u).tags) : ListsKept b c := by
  subst hc
  refine ⟨id, id, fun h u hu => ?_, fun h => ⟨fun u => ?_, usedTags_nodup_of_subperm tags h.2⟩⟩
  · obtain ⟨hd, hp⟩ := down u hu
    exact ⟨hp (h u hd).1, (h u hd).2⟩
  · have := (tags u).length_le
    simp only [Shuttle.tags, List.length_map] at this
    exact this.trans (h.1 u)

theorem modRow (b : Block) (r : RowId) (g : RowState → RowState) : ListsKept b (b.modRow r g) := of_eq rfl rfl rfl
theorem modRobot (b : Block) (k : RobotId) (g : Robot → Robot) : ListsKept b (b.modRobot k g) := of_eq rfl rfl rfl

/-- A shuttle's own change that places no record and does not take it down. -/
theorem modShuttle {s : ShuttleId} {g : Shuttle → Shuttle}
    (down : (g (b.shuttle s)).Down →
      (b.shuttle s).Down ∧ ((b.shuttle s).pollDue = none → (g (b.shuttle s)).pollDue = none))
    (tags : (g (b.shuttle s)).tags.Subperm (b.shuttle s).tags) : ListsKept b (b.modShuttle s g) := by
  refine of_shuttles (b.modShuttle s g) rfl (fun u => ?_) fun u => ?_
  · rw [Block.shuttle_modShuttle]
    split
    · next h => exact h ▸ down
    · exact fun h => ⟨h, id⟩
  · rw [Block.shuttle_modShuttle]
    split
    · next h => exact h ▸ tags
    · exact .refl _

/-- A shuttle's change that touches neither its state, its poll nor its tags. -/
theorem modShuttle_quiet {s : ShuttleId} {g : Shuttle → Shuttle}
    (h : ∀ x, (g x).mode = x.mode ∧ (g x).pollDue = x.pollDue ∧ (g x).queue = x.queue) : ListsKept b (b.modShuttle s g) := by
  obtain ⟨mode, poll, queue⟩ := h (b.shuttle s)
  refine modShuttle (fun hd => ⟨?_, fun hp => poll.trans hp⟩) ?_
  · simpa only [Shuttle.Down, mode] using hd
  · simp only [Shuttle.tags, queue]; exact .refl _

/-- A record with a free tag is placed in a queue of fewer than 8 (R62, R68), after a change that keeps the laws. -/
theorem then_place {s : ShuttleId} {z : Transfer} (h : ListsKept a b) (unused : z.tag ∉ b.usedTags)
    (room : a.TransfersInRange → (b.shuttle s).queue.length < 8) :
    ListsKept a (b.modShuttle s fun x => { x with queue := placeRecord z x.queue }) := by
  refine ⟨h.keys, h.link, fun ha u hu => ?_, fun ha => ⟨fun u => ?_, ?_⟩⟩
  · rw [Block.shuttle_modShuttle] at hu ⊢
    split at hu
    · next e => subst e; simpa using h.down ha s hu
    · next e => simpa [e] using h.down ha u hu
  · rw [Block.shuttle_modShuttle]
    split
    · have := room ha
      simp only [(placeRecord_perm z _).length_eq, List.length_cons]
      omega
    · exact (h.range ha).1 u
  · exact usedTags_nodup_place (s := s) unused (by simp) (fun u hu => by simp [Ne.symm hu]) (h.range ha).2

/-! ## Deadlines -/

theorem filterDeadlines (b : Block) (p : Deadline → Bool) : ListsKept b { b with deadlines := b.deadlines.filter p } := by
  refine of_deadlines fun ⟨nodup, apart⟩ => ⟨nodup.sublist (List.filter_sublist.map _), fun d hd k hk hin => ?_⟩
  exact apart d (List.mem_of_mem_filter hd) k hk ((List.filter_sublist.map _).subset hin)

theorem cancel (b : Block) (kind : DeadlineKind) : ListsKept b (b.cancel kind) := filterDeadlines b _

theorem sibling_comm {x y : DeadlineKind} (h : x.sibling = some y) : y.sibling = some x := by
  cases x <;> simp_all [DeadlineKind.sibling] <;> subst h <;> rfl

theorem sibling_ne (x : DeadlineKind) : x.sibling ≠ some x := by cases x <;> simp [DeadlineKind.sibling]

/-- An arming leaves one entry of its kind and key, and none of a robot's other kind (R16). -/
theorem arm (e : Env) (kind : DeadlineKind) (n : Nat) (b : Block) : ListsKept b (b.arm e kind n) := by
  refine of_deadlines fun ⟨nodup, apart⟩ => ?_
  set kept := b.deadlines.filter fun d => d.kind != kind && some d.kind != kind.sibling with hkept
  obtain ⟨front, back, hk, hins, -, -⟩ :=
    insertDeadline_split e.now { due := e.now + BitVec.ofNat 32 n, kind := kind } kept
  have perm : ((insertDeadline e.now { due := e.now + BitVec.ofNat 32 n, kind := kind } kept).map Deadline.kind).Perm
      (kind :: kept.map Deadline.kind) := by
    rw [hins, hk]
    simp
  have gone : ∀ x ∈ kept.map Deadline.kind, x ≠ kind ∧ some x ≠ kind.sibling ∧ x ∈ b.deadlines.map Deadline.kind := by
    intro x hx
    obtain ⟨d, hd, rfl⟩ := List.mem_map.mp hx
    obtain ⟨hmem, hne⟩ := List.mem_filter.mp hd
    simp only [bne_iff_ne, Bool.and_eq_true, ne_eq] at hne
    exact ⟨hne.1, hne.2, List.mem_map_of_mem hmem⟩
  refine ⟨perm.nodup_iff.mpr (List.nodup_cons.mpr ⟨fun h => (gone kind h).1 rfl, ?_⟩), fun d hd k hsib hin => ?_⟩
  · exact nodup.sublist (List.filter_sublist.map _)
  · rw [perm.mem_iff, List.mem_cons] at hin
    rw [mem_insertDeadline] at hd
    obtain rfl | hd := hd
    · obtain rfl | hin := hin
      · exact sibling_ne _ hsib
      · exact (gone k hin).2.1 hsib.symm
    · have hdk := gone d.kind (List.mem_map_of_mem hd)
      obtain rfl | hin := hin
      · exact hdk.2.1 (sibling_comm hsib).symm
      · exact apart d (List.mem_of_mem_filter hd) k hsib (gone k hin).2.2

/-! ## The link -/

/-- A placement for a shuttle that is not down (R84), after a change that keeps the laws. -/
theorem then_placeLink {s : ShuttleId} (h : ListsKept a b) (up : a.DownAreSilent → ¬ (b.shuttle s).Down) (op : LinkOp)
    (counts : Bool) : ListsKept a (b.placeLink s op counts) := by
  unfold Block.placeLink
  split
  · next he =>
    refine ⟨h.keys, fun _ hd => by simp [he] at hd, fun ha u hu => ?_, h.range⟩
    have hus : s ≠ u := by rintro rfl; exact up ha hu
    obtain ⟨poll, queue⟩ := h.down ha u hu
    exact ⟨poll, by simpa [Vector.getElem_set, Fin.ext_iff, Fin.val_ne_of_ne hus] using queue⟩
  · exact h

theorem withdrawn_queue (b : Block) (s u : ShuttleId) :
    (b.withdrawLink s).link.queue[u] = if s = u then none else b.link.queue[u] := by
  simp [Block.withdrawLink, Vector.getElem_set, Fin.ext_iff]

theorem withdrawLink (b : Block) (s : ShuttleId) : ListsKept b (b.withdrawLink s) := by
  refine of_link (fun h he => ⟨(h he).1, fun u => ?_⟩) fun u _ h => ?_
  · exact (withdrawn_queue b s u).trans (by rw [(h he).2 u, ite_self])
  · exact (withdrawn_queue b s u).trans (by rw [h, ite_self])

theorem discardFlight (b : Block) (s : ShuttleId) : ListsKept b (b.discardFlight s) := by
  rw [Block.discardFlight_eq]
  exact of_link (fun h he => ⟨by simp [(h he).1], (h he).2⟩) fun _ _ h => h

/-- A shuttle is taken down with its poll cleared and its pending transaction withdrawn (R64). -/
theorem takeDown {s : ShuttleId} {g : Shuttle → Shuttle} (poll : (g (b.shuttle s)).pollDue = none)
    (queue : (g (b.shuttle s)).queue = (b.shuttle s).queue) : ListsKept b ((b.modShuttle s g).withdrawLink s) := by
  have tags : ∀ u, (((b.modShuttle s g).withdrawLink s).shuttle u).tags = (b.shuttle u).tags := by
    intro u
    rw [Block.withdrawLink_shuttle, Block.shuttle_modShuttle]
    split
    · next e => subst e; simp only [Shuttle.tags, queue]
    · rfl
  refine ⟨id, (withdrawLink (b.modShuttle s g) s).link, fun h u hu => ?_, fun h => ⟨fun u => ?_, ?_⟩⟩
  · rw [Block.withdrawLink_shuttle, Block.shuttle_modShuttle] at hu ⊢
    rw [withdrawn_queue]
    split at hu
    · next e => subst e; simpa using poll
    · next e => simpa [e] using h u hu
  · have := congrArg List.length (tags u)
    simp only [Shuttle.tags, List.length_map] at this
    exact this.trans_le (h.1 u)
  · exact usedTags_nodup_of_subperm (fun u => by rw [tags u]) h.2

end ListsKept

end Sys2Proof.Machine
end

section
/-! PROOF. The claim laws (R4, R21, R43, R62, R63) taken apart into named facts, and what the changes of one robot, one row
and one shuttle keep of them. -/

namespace Sys2Proof.Machine

open Sys2Proof

/-! ## The laws, taken apart -/

/-- The record of a robot that holds row `r` fits the row's tracker state (R21, R43). -/
structure HolderFits (e : Env) (r : RowId) (x : RowState) (z : Robot) : Prop where
  present  : (e.row r).present = true
  transfer : z.transfer = none
  waits    : x.tracker = .holdPending → z.location = .rowEnd r ∧ (z.mode = .waitHold ∨ z.mode = .faulted)
  rides    : x.tracker ≠ .holdPending →
    z.location = .onRow r ∧ (z.mode = .onRow ∨ z.mode = .braced ∨ z.mode = .faulted)
      ∧ x.tracker ≠ .tracking ∧ x.tracker ≠ .faulted
  stowed   : x.tracker = .stowReleased ∨ x.tracker = .stowed → z.mode = .braced

/-- The claims of the rows and the robots on them agree (R4, R21, R43). -/
structure Holds (e : Env) (b : Block) : Prop where
  pending : ∀ r, (b.row r).tracker = .holdPending → (b.row r).holder ≠ none
  fits    : ∀ r k, (b.row r).holder = some k → HolderFits e r (b.row r) (b.robot k)
  rider   : ∀ k r, (b.robot k).location = .onRow r → (b.row r).holder = some k ∧ (b.row r).tracker ≠ .holdPending

theorem holdsAgree_iff {e : Env} {b : Block} : b.HoldsAgree e ↔ Holds e b := by
  refine ⟨fun ⟨rows, rider⟩ => ⟨fun r => (rows r).1, fun r k hk => ?_, rider⟩, fun h => ⟨fun r => ⟨h.pending r, ?_⟩, h.rider⟩⟩
  · obtain ⟨present, transfer, place, stowed⟩ := (rows r).2 k hk
    exact ⟨present, transfer, fun hp => by simpa only [if_pos hp] using place,
      fun hp => by simpa only [if_neg hp] using place, stowed⟩
  · intro k hk
    obtain ⟨present, transfer, waits, rides, stowed⟩ := h.fits r k hk
    refine ⟨present, transfer, ?_, stowed⟩
    split
    · next hp => exact waits hp
    · next hp => exact rides hp

/-- A robot that waits for no transfer has none, and stands at a present row (R5, R63). -/
structure RobotFits (e : Env) (z : Robot) : Prop where
  untasked : (z.mode = .absent ∨ z.mode = .idle ∨ z.mode = .waitHold ∨ z.mode = .onRow ∨ z.mode = .braced
    ∨ z.location = .unknown) → z.transfer = none
  place    : ∀ r, z.mode ≠ .absent → (z.location = .rowEnd r ∨ z.location = .onRow r) → (e.row r).present = true

/-- A record's places are present rows; dispatched it is its shuttle's current one, and running its shuttle is MOVING or
DOCKING (R5, R62, R63). -/
structure RecordFits (e : Env) (x : Shuttle) (t : Transfer) : Prop where
  source  : ∀ r, t.source = .rowEnd r → (e.row r).present = true
  dest    : ∀ r, t.dest = .rowEnd r → (e.row r).present = true
  current : t.step ≠ .queued → x.current = some t.tag
  running : ∀ y, t.step = .running y → x.mode = .moving ∨ x.mode = .docking

/-- The shuttle's queue holds the record with the tag, of robot `k`. -/
def Shuttle.Carries (x : Shuttle) (tag : Tag) (k : RobotId) : Prop := ∃ t ∈ x.queue, t.tag = tag ∧ t.robot = k

/-- Records name their robots, and a robot aboard a shuttle has its record there (R62, R63). -/
structure Queued (e : Env) (b : Block) : Prop where
  tags   : b.usedTags.Nodup
  aboard : ∀ k u tag, (b.robot k).location = .carried u → (b.robot k).transfer = some tag → (b.shuttle u).Carries tag k
  named  : ∀ u, ∀ t ∈ (b.shuttle u).queue, (b.robot t.robot).transfer = some t.tag
  fits   : ∀ u, ∀ t ∈ (b.shuttle u).queue, RecordFits e (b.shuttle u) t

/-- Robots and records name each other, and every robot's record fits (R62, R63). -/
structure Records (e : Env) (b : Block) : Prop extends Queued e b where
  robots : ∀ k, RobotFits e (b.robot k)

theorem recordsAgree_iff {e : Env} {b : Block} : b.RecordsAgree e ↔ Records e b := by
  refine ⟨fun ⟨tags, robots, records⟩ => ⟨⟨tags, fun k => (robots k).2.2, fun u t ht => (records u t ht).1,
    fun u t ht => ?_⟩, fun k => ?_⟩, fun h => ⟨h.tags, fun k => ?_, fun u t ht => ?_⟩⟩
  · obtain ⟨-, source, dest, current, running⟩ := records u t ht
    exact ⟨source, dest, current, running⟩
  · obtain ⟨untasked, place, -⟩ := robots k
    exact ⟨untasked, place⟩
  · exact ⟨(h.robots k).untasked, (h.robots k).place, h.aboard k⟩
  · obtain ⟨source, dest, current, running⟩ := h.fits u t ht
    exact ⟨h.named u t ht, source, dest, current, running⟩

/-- The claim laws as a whole. -/
structure Claims (e : Env) (b : Block) : Prop where
  holds   : Holds e b
  records : Records e b

theorem claims_iff {e : Env} {b : Block} : b.HoldsAgree e ∧ b.RecordsAgree e ↔ Claims e b := by
  rw [holdsAgree_iff, recordsAgree_iff]
  exact ⟨fun ⟨h, r⟩ => ⟨h, r⟩, fun h => ⟨h.holds, h.records⟩⟩

/-! ## What the laws read of a record -/

/-- Two rows have the same holder and tracker state. -/
def RowState.SameClaim (x y : RowState) : Prop := x.holder = y.holder ∧ x.tracker = y.tracker
/-- Two robots have the same state, location and transfer. -/
def Robot.SameClaim (x y : Robot) : Prop := x.mode = y.mode ∧ x.location = y.location ∧ x.transfer = y.transfer
/-- Two shuttles have the same queue, current transfer and state. -/
def Shuttle.SameWork (x y : Shuttle) : Prop := x.queue = y.queue ∧ x.current = y.current ∧ x.mode = y.mode

@[refl] theorem RowState.SameClaim.refl (x : RowState) : x.SameClaim x := ⟨rfl, rfl⟩
@[refl] theorem Robot.SameClaim.refl (x : Robot) : x.SameClaim x := ⟨rfl, rfl, rfl⟩
@[refl] theorem Shuttle.SameWork.refl (x : Shuttle) : x.SameWork x := ⟨rfl, rfl, rfl⟩

variable {e : Env} {b c : Block}

theorem HolderFits.congr {r : RowId} {x y : RowState} {z w : Robot} (h : HolderFits e r x z) (row : y.tracker = x.tracker)
    (robot : w.SameClaim z) : HolderFits e r y w := by
  obtain ⟨mode, location, transfer⟩ := robot
  obtain ⟨h1, h2, h3, h4, h5⟩ := h
  constructor <;> simpa only [row, mode, location, transfer]

theorem RobotFits.congr {z w : Robot} (h : RobotFits e z) (robot : w.SameClaim z) : RobotFits e w := by
  obtain ⟨mode, location, transfer⟩ := robot
  obtain ⟨h1, h2⟩ := h
  constructor <;> simpa only [mode, location, transfer]

theorem RecordFits.congr {x y : Shuttle} {t : Transfer} (h : RecordFits e x t) (current : y.current = x.current)
    (mode : y.mode = x.mode) : RecordFits e y t :=
  ⟨h.source, h.dest, fun hs => current.trans (h.current hs), fun x hx => by rw [mode]; exact h.running x hx⟩

/-- The laws read presence alone of the environment. -/
theorem Claims.env {e' : Env} (h : Claims e b) (present : ∀ r, (e'.row r).present = (e.row r).present) : Claims e' b := by
  obtain ⟨⟨pending, fits, rider⟩, ⟨⟨tags, aboard, named, records⟩, robots⟩⟩ := h
  refine ⟨⟨pending, fun r k hk => ?_, rider⟩, ⟨⟨tags, aboard, named, fun u t ht => ?_⟩, fun k => ?_⟩⟩
  · exact { fits r k hk with present := (present r).trans (fits r k hk).present }
  · have hf := records u t ht
    exact { hf with
      source := fun r hr => (present r).trans (hf.source r hr), dest := fun r hr => (present r).trans (hf.dest r hr) }
  · exact ⟨(robots k).untasked, fun r hm hl => (present r).trans ((robots k).place r hm hl)⟩

/-! ## Robots that hold no row -/

namespace Holds

/-- A robot with a transfer holds no row. -/
theorem free_of_transfer (h : Holds e b) {k : RobotId} (ht : (b.robot k).transfer ≠ none) (r : RowId) :
    (b.row r).holder ≠ some k := fun hk => ht (h.fits r k hk).transfer

/-- A holder is at the end or on the surface of its row. -/
theorem holder_place (h : Holds e b) {k : RobotId} {r : RowId} (hk : (b.row r).holder = some k) :
    (b.robot k).location = .rowEnd r ∨ (b.robot k).location = .onRow r := by
  by_cases hp : (b.row r).tracker = .holdPending
  · exact .inl ((h.fits r k hk).waits hp).1
  · exact .inr ((h.fits r k hk).rides hp).1

/-- A holder waits for its hold, rides its row, is braced or is faulted. -/
theorem holder_mode (h : Holds e b) {k : RobotId} {r : RowId} (hk : (b.row r).holder = some k) :
    (b.robot k).mode = .waitHold ∨ (b.robot k).mode = .onRow ∨ (b.robot k).mode = .braced ∨ (b.robot k).mode = .faulted := by
  by_cases hp : (b.row r).tracker = .holdPending
  · exact ((h.fits r k hk).waits hp).2.imp id fun hm => .inr (.inr hm)
  · exact .inr ((h.fits r k hk).rides hp).2.1

/-- A robot neither at a row end nor on a surface holds no row. -/
theorem free_of_place (h : Holds e b) {k : RobotId}
    (hl : ∀ r, (b.robot k).location ≠ .rowEnd r ∧ (b.robot k).location ≠ .onRow r) (r : RowId) :
    (b.row r).holder ≠ some k :=
  fun hk => (h.holder_place hk).elim (hl r).1 (hl r).2

/-- A robot in none of the holders' states holds no row. -/
theorem free_of_mode (h : Holds e b) {k : RobotId}
    (hm : (b.robot k).mode = .absent ∨ (b.robot k).mode = .idle ∨ (b.robot k).mode = .waitTransfer ∨ (b.robot k).mode = .carried)
    (r : RowId) : (b.row r).holder ≠ some k := fun hk => by
  have := h.holder_mode hk
  aesop

/-- No robot holds two rows (R4). -/
theorem one_row (h : Holds e b) {k : RobotId} {r r' : RowId} (hr : (b.row r).holder = some k)
    (hr' : (b.row r').holder = some k) : r = r' := by
  by_cases hp : (b.row r).tracker = .holdPending <;> by_cases hp' : (b.row r').tracker = .holdPending
  · have h1 := ((h.fits r k hr).waits hp).1
    have h2 := ((h.fits r' k hr').waits hp').1
    simpa [h1] using h2
  · have h1 := ((h.fits r k hr).waits hp).1
    have h2 := ((h.fits r' k hr').rides hp').1
    simp [h1] at h2
  · have h1 := ((h.fits r k hr).rides hp).1
    have h2 := ((h.fits r' k hr').waits hp').1
    simp [h1] at h2
  · have h1 := ((h.fits r k hr).rides hp).1
    have h2 := ((h.fits r' k hr').rides hp').1
    simpa [h1] using h2

/-- A robot that holds no row is on no surface. -/
theorem off_surface (h : Holds e b) {k : RobotId} (free : ∀ r, (b.row r).holder ≠ some k) (r : RowId) :
    (b.robot k).location ≠ .onRow r := fun hl => free r (h.rider k r hl).1

/-! ## Changes of the claims -/

/-- A change that the claims do not read. -/
theorem same (h : Holds e b) (rows : ∀ r, (c.row r).SameClaim (b.row r)) (robots : ∀ k, (c.robot k).SameClaim (b.robot k)) :
    Holds e c := by
  refine ⟨fun r hp => ?_, fun r k hk => ?_, fun k r hl => ?_⟩
  · rw [(rows r).1]; exact h.pending r ((rows r).2 ▸ hp)
  · exact (h.fits r k ((rows r).1 ▸ hk)).congr (rows r).2 (robots k)
  · rw [(rows r).1, (rows r).2]; exact h.rider k r ((robots k).2.1 ▸ hl)

/-- A change of a robot that holds no row and comes to no surface. -/
theorem free {k : RobotId} (h : Holds e b) (hfree : ∀ r, (b.row r).holder ≠ some k)
    (off : ∀ r, (c.robot k).location ≠ .onRow r) (others : ∀ j, j ≠ k → c.robot j = b.robot j)
    (rows : ∀ r, (c.row r).SameClaim (b.row r)) : Holds e c := by
  refine ⟨fun r hp => ?_, fun r j hj => ?_, fun j r hl => ?_⟩
  · rw [(rows r).1]; exact h.pending r ((rows r).2 ▸ hp)
  · rw [(rows r).1] at hj
    have hne : j ≠ k := by rintro rfl; exact hfree r hj
    rw [others j hne]
    exact (h.fits r j hj).congr (rows r).2 (.refl _)
  · have hne : j ≠ k := by rintro rfl; exact off r hl
    rw [others j hne] at hl
    rw [(rows r).1, (rows r).2]
    exact h.rider j r hl

/-- A change of a robot's state alone, in which it still fits the row it holds. -/
theorem remode {k : RobotId} (h : Holds e b) (place : (c.robot k).location = (b.robot k).location)
    (fits : ∀ r, (b.row r).holder = some k → HolderFits e r (b.row r) (b.robot k) → HolderFits e r (b.row r) (c.robot k))
    (others : ∀ j, j ≠ k → c.robot j = b.robot j) (rows : ∀ r, (c.row r).SameClaim (b.row r)) : Holds e c := by
  refine ⟨fun r hp => ?_, fun r j hj => ?_, fun j r hl => ?_⟩
  · rw [(rows r).1]; exact h.pending r ((rows r).2 ▸ hp)
  · rw [(rows r).1] at hj
    by_cases hne : j = k
    · subst hne
      exact (fits r hj (h.fits r j hj)).congr (rows r).2 (.refl _)
    · rw [others j hne]
      exact (h.fits r j hj).congr (rows r).2 (.refl _)
  · rw [(rows r).1, (rows r).2]
    refine h.rider j r ?_
    by_cases hne : j = k
    · subst hne; exact place ▸ hl
    · exact others j hne ▸ hl

/-- A change of tracker states that come to no pending hold and that the holders still fit. -/
theorem track (h : Holds e b) (robots : ∀ k, c.robot k = b.robot k) (holder : ∀ r, (c.row r).holder = (b.row r).holder)
    (tracker : ∀ r, (c.row r).tracker = (b.row r).tracker
      ∨ ((c.row r).tracker ≠ .holdPending
        ∧ ∀ k, (b.row r).holder = some k → HolderFits e r (b.row r) (b.robot k) → HolderFits e r (c.row r) (b.robot k))) :
    Holds e c := by
  refine ⟨fun r hp => ?_, fun r k hk => ?_, fun k r hl => ?_⟩
  · rw [holder r]
    obtain ht | ⟨ht, -⟩ := tracker r
    · exact h.pending r (ht ▸ hp)
    · exact absurd hp ht
  · rw [holder r] at hk
    rw [robots k]
    obtain ht | ⟨-, hf⟩ := tracker r
    · exact (h.fits r k hk).congr ht (.refl _)
    · exact hf k hk (h.fits r k hk)
  · rw [robots k] at hl
    obtain ⟨hh, hp⟩ := h.rider k r hl
    refine ⟨(holder r).trans hh, ?_⟩
    obtain ht | ⟨ht, -⟩ := tracker r
    · exact ht ▸ hp
    · exact ht

/-- A change of one row and of the one robot that holds it before or after. -/
theorem hold {r : RowId} {k : RobotId} (h : Holds e b) (only : ∀ r', r' ≠ r → (b.row r').holder ≠ some k)
    (was : (b.row r).holder = none ∨ (b.row r).holder = some k)
    (now : ((c.row r).holder = none ∧ (c.row r).tracker ≠ .holdPending ∧ ∀ r', (c.robot k).location ≠ .onRow r')
      ∨ ((c.row r).holder = some k ∧ HolderFits e r (c.row r) (c.robot k)))
    (others : ∀ j, j ≠ k → c.robot j = b.robot j) (rows : ∀ r', r' ≠ r → c.row r' = b.row r') : Holds e c := by
  refine ⟨fun r' hp => ?_, fun r' j hj => ?_, fun j r' hl => ?_⟩
  · by_cases hr : r' = r
    · subst hr
      obtain ⟨-, ht, -⟩ | ⟨hh, -⟩ := now
      · exact absurd hp ht
      · simp [hh]
    · rw [rows r' hr] at hp ⊢
      exact h.pending r' hp
  · by_cases hr : r' = r
    · subst hr
      obtain ⟨hh, -, -⟩ | ⟨hh, hf⟩ := now
      · simp [hh] at hj
      · obtain rfl : k = j := by simpa [hh] using hj
        exact hf
    · rw [rows r' hr] at hj ⊢
      have hne : j ≠ k := by rintro rfl; exact only r' hr hj
      rw [others j hne]
      exact h.fits r' j hj
  · by_cases hne : j = k
    · subst hne
      obtain ⟨-, -, hoff⟩ | ⟨hh, hf⟩ := now
      · exact absurd hl (hoff r')
      · by_cases hp : (c.row r).tracker = .holdPending
        · simp [(hf.waits hp).1] at hl
        · obtain rfl : r = r' := by simpa [(hf.rides hp).1] using hl
          exact ⟨hh, hp⟩
    · rw [others j hne] at hl
      have hold := h.rider j r' hl
      have hr : r' ≠ r := by
        rintro rfl
        obtain hw | hw := was
        · simp [hw] at hold
        · exact hne (by simpa [hw] using hold.1.symm)
      rw [rows r' hr]
      exact hold

end Holds

/-! ## Changes of the records -/

namespace Queued

/-- The robot a record names has a transfer. -/
theorem robot_of_record (h : Queued e b) {u : ShuttleId} {t : Transfer} (ht : t ∈ (b.shuttle u).queue) :
    (b.robot t.robot).transfer ≠ none := by rw [h.named u t ht]; exact Option.some_ne_none _

/-- Two records of one robot are one record. -/
theorem unique_of_robot (h : Queued e b) {u v : ShuttleId} {t y : Transfer} (ht : t ∈ (b.shuttle u).queue)
    (hy : y ∈ (b.shuttle v).queue) (robot : y.robot = t.robot) : v = u ∧ y = t := by
  refine record_unique h.tags ht hy ?_
  have h1 := h.named u t ht
  have h2 := h.named v y hy
  rw [robot, h1] at h2
  exact (Option.some_inj.mp h2).symm

/-- A change that the records do not read. -/
theorem same (h : Queued e b) (robots : ∀ k, (c.robot k).SameClaim (b.robot k))
    (shuttles : ∀ u, (c.shuttle u).SameWork (b.shuttle u)) : Queued e c := by
  have queue : ∀ u, (c.shuttle u).queue = (b.shuttle u).queue := fun u => (shuttles u).1
  refine ⟨?_, fun k u tag hl ht => ?_, fun u t ht => ?_, fun u t ht => ?_⟩
  · unfold Block.usedTags; simp only [queue]; exact h.tags
  · obtain ⟨-, location, transfer⟩ := robots k
    unfold Shuttle.Carries
    rw [queue]
    exact h.aboard k u tag (location ▸ hl) (transfer ▸ ht)
  · rw [(robots t.robot).2.2]; exact h.named u t (queue u ▸ ht)
  · exact (h.fits u t (queue u ▸ ht)).congr (shuttles u).2.1 (shuttles u).2.2

/-- A change of one robot that keeps its transfer. -/
theorem robot {k : RobotId} (h : Queued e b) (transfer : (c.robot k).transfer = (b.robot k).transfer)
    (aboard : ∀ u tag, (c.robot k).location = .carried u → (b.robot k).transfer = some tag → (b.shuttle u).Carries tag k)
    (others : ∀ j, j ≠ k → c.robot j = b.robot j) (shuttles : ∀ u, (c.shuttle u).SameWork (b.shuttle u)) : Queued e c := by
  have queue : ∀ u, (c.shuttle u).queue = (b.shuttle u).queue := fun u => (shuttles u).1
  have same : ∀ j, (c.robot j).transfer = (b.robot j).transfer := fun j => by
    by_cases hj : j = k
    · subst hj; exact transfer
    · rw [others j hj]
  refine ⟨?_, fun j u tag hl ht => ?_, fun u t ht => ?_, fun u t ht => ?_⟩
  · unfold Block.usedTags; simp only [queue]; exact h.tags
  · unfold Shuttle.Carries
    rw [queue]
    by_cases hj : j = k
    · subst hj; exact aboard u tag hl (transfer ▸ ht)
    · rw [others j hj] at hl ht; exact h.aboard j u tag hl ht
  · rw [same]; exact h.named u t (queue u ▸ ht)
  · exact (h.fits u t (queue u ▸ ht)).congr (shuttles u).2.1 (shuttles u).2.2

/-- A change of the shuttles that leaves their tags and robots, and that their records still fit. -/
theorem shuttles (h : Queued e b) (robots : ∀ k, (c.robot k).SameClaim (b.robot k))
    (tags : ∀ u, (c.shuttle u).tags.Subperm (b.shuttle u).tags)
    (came : ∀ u, ∀ t ∈ (c.shuttle u).queue, ∃ y ∈ (b.shuttle u).queue, y.tag = t.tag ∧ y.robot = t.robot)
    (stayed : ∀ u, ∀ y ∈ (b.shuttle u).queue, ∃ t ∈ (c.shuttle u).queue, t.tag = y.tag ∧ t.robot = y.robot)
    (fits : ∀ u, ∀ t ∈ (c.shuttle u).queue, RecordFits e (c.shuttle u) t) : Queued e c := by
  refine ⟨usedTags_nodup_of_subperm tags h.tags, fun k u tag hl ht => ?_, fun u t ht => ?_, fits⟩
  · obtain ⟨-, location, transfer⟩ := robots k
    obtain ⟨y, hy, h1, h2⟩ := h.aboard k u tag (location ▸ hl) (transfer ▸ ht)
    obtain ⟨t, ht, h3, h4⟩ := stayed u y hy
    exact ⟨t, ht, h3.trans h1, h4.trans h2⟩
  · rw [(robots t.robot).2.2]
    obtain ⟨y, hy, h1, h2⟩ := came u t ht
    rw [← h1, ← h2]
    exact h.named u y hy

/-- The same of one shuttle. -/
theorem shuttle {s : ShuttleId} (h : Queued e b) (robots : ∀ k, (c.robot k).SameClaim (b.robot k))
    (others : ∀ u, u ≠ s → c.shuttle u = b.shuttle u)
    (tags : (c.shuttle s).tags.Subperm (b.shuttle s).tags)
    (came : ∀ t ∈ (c.shuttle s).queue, ∃ y ∈ (b.shuttle s).queue, y.tag = t.tag ∧ y.robot = t.robot)
    (stayed : ∀ y ∈ (b.shuttle s).queue, ∃ t ∈ (c.shuttle s).queue, t.tag = y.tag ∧ t.robot = y.robot)
    (fits : ∀ t ∈ (c.shuttle s).queue, RecordFits e (c.shuttle s) t) : Queued e c := by
  refine h.shuttles robots (fun u => ?_) (fun u t ht => ?_) (fun u y hy => ?_) fun u t ht => ?_ <;>
    obtain rfl | hu := eq_or_ne u s
  · exact tags
  · rw [others u hu]
  · exact came t ht
  · exact ⟨t, others u hu ▸ ht, rfl, rfl⟩
  · exact stayed y hy
  · exact ⟨y, (others u hu).symm ▸ hy, rfl, rfl⟩
  · exact fits t ht
  · rw [others u hu] at ht ⊢; exact h.fits u t ht

/-- A record leaves its queue, and its robot is left with no transfer (R73, R75). -/
theorem remove {s : ShuttleId} {t : Transfer} (h : Queued e b) (ht : t ∈ (b.shuttle s).queue)
    (cleared : (c.robot t.robot).transfer = none)
    (queue : (c.shuttle s).queue = (b.shuttle s).queue.filter fun y => y.tag != t.tag)
    (fits : ∀ y ∈ (b.shuttle s).queue, y.tag ≠ t.tag → RecordFits e (c.shuttle s) y)
    (others : ∀ j, j ≠ t.robot → c.robot j = b.robot j) (shuttles : ∀ u, u ≠ s → c.shuttle u = b.shuttle u) :
    Queued e c := by
  have mem : ∀ y, y ∈ (c.shuttle s).queue ↔ y ∈ (b.shuttle s).queue ∧ y.tag ≠ t.tag := fun y => by simp [queue]
  have old : ∀ u y, y ∈ (c.shuttle u).queue → y ∈ (b.shuttle u).queue := fun u y hy => by
    by_cases hu : u = s
    · subst hu; exact ((mem y).mp hy).1
    · exact shuttles u hu ▸ hy
  have apart : ∀ u y, y ∈ (c.shuttle u).queue → y.robot ≠ t.robot := fun u y hy hr => by
    obtain ⟨rfl, rfl⟩ := h.unique_of_robot ht (old u y hy) hr
    exact ((mem y).mp hy).2 rfl
  refine ⟨usedTags_nodup_of_subperm (fun u => ?_) h.tags, fun j u tag hl htr => ?_, fun u y hy => ?_, fun u y hy => ?_⟩
  · by_cases hu : u = s
    · subst hu
      unfold Shuttle.tags
      rw [queue]
      exact (List.filter_sublist.map _).subperm
    · rw [shuttles u hu]
  · have hj : j ≠ t.robot := by rintro rfl; simp [cleared] at htr
    rw [others j hj] at hl htr
    obtain ⟨y, hy, h1, h2⟩ := h.aboard j u tag hl htr
    by_cases hu : u = s
    · subst hu
      refine ⟨y, (mem y).mpr ⟨hy, fun hyt => hj ?_⟩, h1, h2⟩
      rw [← h2, (record_unique h.tags ht hy hyt).2]
    · rw [shuttles u hu]; exact ⟨y, hy, h1, h2⟩
  · rw [others _ (apart u y hy)]; exact h.named u y (old u y hy)
  · by_cases hu : u = s
    · subst hu; exact fits y ((mem y).mp hy).1 ((mem y).mp hy).2
    · rw [shuttles u hu] at hy ⊢; exact h.fits u y hy

/-- A record with a free tag is placed in a queue, and its robot, which had no transfer, takes it (R67, R68). -/
theorem place {s : ShuttleId} {t : Transfer} (h : Queued e b) (unused : t.tag ∉ b.usedTags)
    (free : (b.robot t.robot).transfer = none)
    (named : (c.robot t.robot).transfer = some t.tag) (aboard : ∀ u, (c.robot t.robot).location = .carried u → u = s)
    (queue : (c.shuttle s).queue = placeRecord t (b.shuttle s).queue)
    (source : ∀ r, t.source = .rowEnd r → (e.row r).present = true)
    (dest : ∀ r, t.dest = .rowEnd r → (e.row r).present = true) (queued : t.step = .queued)
    (work : (c.shuttle s).current = (b.shuttle s).current ∧ (c.shuttle s).mode = (b.shuttle s).mode)
    (others : ∀ j, j ≠ t.robot → c.robot j = b.robot j) (shuttles : ∀ u, u ≠ s → c.shuttle u = b.shuttle u) :
    Queued e c := by
  have mem : ∀ y, y ∈ (c.shuttle s).queue ↔ y = t ∨ y ∈ (b.shuttle s).queue := fun y => by
    rw [queue]; exact mem_placeRecord
  have split : ∀ u y, y ∈ (c.shuttle u).queue → (u = s ∧ y = t) ∨ (y ∈ (b.shuttle u).queue ∧ y.robot ≠ t.robot) := by
    intro u y hy
    have old : y ∈ (b.shuttle u).queue → y.robot ≠ t.robot := fun hy hr => h.robot_of_record hy (hr ▸ free)
    by_cases hu : u = s
    · subst hu
      exact ((mem y).mp hy).imp (fun h => ⟨rfl, h⟩) fun h => ⟨h, old h⟩
    · rw [shuttles u hu] at hy
      exact .inr ⟨hy, old hy⟩
  refine ⟨usedTags_nodup_place unused queue shuttles h.tags, fun j u tag hl htr => ?_, fun u y hy => ?_, fun u y hy => ?_⟩
  · by_cases hj : j = t.robot
    · subst hj
      obtain rfl := aboard u hl
      exact ⟨t, (mem t).mpr (.inl rfl), Option.some_inj.mp (named.symm.trans htr), rfl⟩
    · rw [others j hj] at hl htr
      obtain ⟨y, hy, h1, h2⟩ := h.aboard j u tag hl htr
      by_cases hu : u = s
      · subst hu; exact ⟨y, (mem y).mpr (.inr hy), h1, h2⟩
      · rw [shuttles u hu]; exact ⟨y, hy, h1, h2⟩
  · obtain ⟨-, rfl⟩ | ⟨hy, hr⟩ := split u y hy
    · exact named
    · rw [others _ hr]; exact h.named u y hy
  · obtain ⟨rfl, rfl⟩ | ⟨hy', -⟩ := split u y hy
    · exact ⟨source, dest, fun hs => absurd queued hs, fun x hx => by simp [queued] at hx⟩
    · by_cases hu : u = s
      · subst hu; exact (h.fits u y hy').congr work.1 work.2
      · rw [shuttles u hu]; exact h.fits u y hy'

end Queued

/-- Robots that keep their records, but for one, still fit where that one does. -/
theorem RobotFits.all {k : RobotId} (h : ∀ j, j ≠ k → RobotFits e (b.robot j)) (fits : RobotFits e (c.robot k))
    (others : ∀ j, j ≠ k → c.robot j = b.robot j) (j : RobotId) : RobotFits e (c.robot j) := by
  by_cases hj : j = k
  · subst hj; exact fits
  · rw [others j hj]; exact h j hj

namespace Claims

/-- A change that the laws do not read. -/
theorem same (h : Claims e b) (rows : ∀ r, (c.row r).SameClaim (b.row r))
    (robots : ∀ k, (c.robot k).SameClaim (b.robot k)) (shuttles : ∀ u, (c.shuttle u).SameWork (b.shuttle u)) : Claims e c :=
  ⟨h.holds.same rows robots, h.records.toQueued.same robots shuttles, fun k => (h.records.robots k).congr (robots k)⟩

/-- A change of one robot that holds no row, keeps its transfer and comes to no surface. -/
theorem robot {k : RobotId} (h : Claims e b) (free : ∀ r, (b.row r).holder ≠ some k) (fits : RobotFits e (c.robot k))
    (off : ∀ r, (c.robot k).location ≠ .onRow r) (transfer : (c.robot k).transfer = (b.robot k).transfer)
    (aboard : ∀ u tag, (c.robot k).location = .carried u → (b.robot k).transfer = some tag → (b.shuttle u).Carries tag k)
    (others : ∀ j, j ≠ k → c.robot j = b.robot j) (rows : ∀ r, (c.row r).SameClaim (b.row r))
    (shuttles : ∀ u, (c.shuttle u).SameWork (b.shuttle u)) : Claims e c :=
  ⟨h.holds.free free off others rows, h.records.toQueued.robot transfer aboard others shuttles,
    RobotFits.all (fun j _ => h.records.robots j) fits others⟩

/-- A change of one shuttle that leaves its tags and robots, and that its records still fit. -/
theorem shuttle {s : ShuttleId} (h : Claims e b) (rows : ∀ r, (c.row r).SameClaim (b.row r))
    (robots : ∀ k, (c.robot k).SameClaim (b.robot k)) (others : ∀ u, u ≠ s → c.shuttle u = b.shuttle u)
    (tags : (c.shuttle s).tags.Subperm (b.shuttle s).tags)
    (came : ∀ t ∈ (c.shuttle s).queue, ∃ y ∈ (b.shuttle s).queue, y.tag = t.tag ∧ y.robot = t.robot)
    (stayed : ∀ y ∈ (b.shuttle s).queue, ∃ t ∈ (c.shuttle s).queue, t.tag = y.tag ∧ t.robot = y.robot)
    (fits : ∀ t ∈ (c.shuttle s).queue, RecordFits e (c.shuttle s) t) : Claims e c :=
  ⟨h.holds.same rows robots, h.records.toQueued.shuttle robots others tags came stayed fits,
    fun k => (h.records.robots k).congr (robots k)⟩

/-- With every robot absent, no row held and no record standing the laws hold. -/
theorem absent
    (robots : ∀ k, (b.robot k).mode = .absent ∧ (b.robot k).transfer = none ∧ ∀ r, (b.robot k).location ≠ .onRow r)
    (rows : ∀ r, (b.row r).holder = none ∧ (b.row r).tracker ≠ .holdPending) (queues : ∀ u, (b.shuttle u).queue = []) :
    Claims e b := by
  refine ⟨⟨fun r hp => absurd hp (rows r).2, fun r k hk => by simp [(rows r).1] at hk, fun k r hl => absurd hl ((robots k).2.2 r)⟩,
    ⟨⟨?_, fun k u tag _ ht => by simp [(robots k).2.1] at ht, fun u t ht => by simp [queues u] at ht,
      fun u t ht => by simp [queues u] at ht⟩, fun k => ⟨fun _ => (robots k).2.1, fun r hm _ => absurd (robots k).1 hm⟩⟩⟩
  exact (usedTags_nodup_iff b).mpr ⟨fun u => by simp [Shuttle.tags, queues], fun u v _ => by simp [Shuttle.tags, queues]⟩

/-- What the laws say where every robot is absent. -/
theorem of_absent (h : Claims e b) (robots : ∀ k, (b.robot k).mode = .absent) :
    (∀ k, (b.robot k).transfer = none ∧ ∀ r, (b.robot k).location ≠ .onRow r)
      ∧ (∀ r, (b.row r).holder = none ∧ (b.row r).tracker ≠ .holdPending) ∧ ∀ u, (b.shuttle u).queue = [] := by
  have transfer (k : RobotId) : (b.robot k).transfer = none := (h.records.robots k).untasked (.inl (robots k))
  have free (r : RowId) (k : RobotId) : (b.row r).holder ≠ some k := h.holds.free_of_mode (.inl (robots k)) r
  have holder (r : RowId) : (b.row r).holder = none := Option.eq_none_iff_forall_ne_some.mpr (free r)
  refine ⟨fun k => ⟨transfer k, h.holds.off_surface fun r => free r k⟩, fun r => ⟨holder r, fun hp =>
    h.holds.pending r hp (holder r)⟩, fun u => List.eq_nil_iff_forall_not_mem.mpr fun t ht => ?_⟩
  exact h.records.toQueued.robot_of_record ht (transfer _)

/-- A record leaves its queue, and its robot, which may have lost its place in the model's tables before, fits again. -/
theorem remove {s : ShuttleId} {t : Transfer} (holds : Holds e b) (queued : Queued e b)
    (robots : ∀ j, j ≠ t.robot → RobotFits e (b.robot j)) (ht : t ∈ (b.shuttle s).queue)
    (robot : RobotFits e (c.robot t.robot)) (cleared : (c.robot t.robot).transfer = none)
    (off : ∀ r, (c.robot t.robot).location ≠ .onRow r)
    (queue : (c.shuttle s).queue = (b.shuttle s).queue.filter fun y => y.tag != t.tag)
    (fits : ∀ y ∈ (b.shuttle s).queue, y.tag ≠ t.tag → RecordFits e (c.shuttle s) y)
    (others : ∀ j, j ≠ t.robot → c.robot j = b.robot j) (shuttles : ∀ u, u ≠ s → c.shuttle u = b.shuttle u)
    (rows : ∀ r, (c.row r).SameClaim (b.row r)) : Claims e c :=
  ⟨holds.free (holds.free_of_transfer (queued.robot_of_record ht)) off others rows,
    queued.remove ht cleared queue fits others shuttles, RobotFits.all robots robot others⟩

/-- A record with a free tag is placed for a robot that holds no row and has no transfer (R67, R68). -/
theorem place {s : ShuttleId} {t : Transfer} (h : Claims e b) (hfree : ∀ r, (b.row r).holder ≠ some t.robot)
    (off : ∀ r, (c.robot t.robot).location ≠ .onRow r) (unused : t.tag ∉ b.usedTags)
    (free : (b.robot t.robot).transfer = none) (robot : RobotFits e (c.robot t.robot))
    (named : (c.robot t.robot).transfer = some t.tag) (aboard : ∀ u, (c.robot t.robot).location = .carried u → u = s)
    (queue : (c.shuttle s).queue = placeRecord t (b.shuttle s).queue)
    (source : ∀ r, t.source = .rowEnd r → (e.row r).present = true)
    (dest : ∀ r, t.dest = .rowEnd r → (e.row r).present = true) (queued : t.step = .queued)
    (work : (c.shuttle s).current = (b.shuttle s).current ∧ (c.shuttle s).mode = (b.shuttle s).mode)
    (others : ∀ j, j ≠ t.robot → c.robot j = b.robot j) (shuttles : ∀ u, u ≠ s → c.shuttle u = b.shuttle u)
    (rows : ∀ r, (c.row r).SameClaim (b.row r)) : Claims e c :=
  ⟨h.holds.free hfree off others rows,
    h.records.toQueued.place unused free named aboard queue source dest queued work others shuttles,
    RobotFits.all (fun j _ => h.records.robots j) robot others⟩

end Claims

end Sys2Proof.Machine
end

section
/-! PROOF. What a rule keeps: the laws of the lists and queues, each for itself, and the claim laws. The shared operations and
the rules of the holds. -/

namespace Sys2Proof.Machine

open Sys2Proof

variable {e : Env} {a b c d : Block}

/-! ## Changes that no law reads -/

/-- From `b` to `c` nothing changes that a law of the lists or of the claims reads: outcomes, orders, tasks, marks, classes,
standings and the weather may. -/
structure Quiet (b c : Block) : Prop where
  deadlines : c.deadlines = b.deadlines
  link      : c.link = b.link
  shuttles  : c.shuttles = b.shuttles
  rows      : ∀ r, (c.row r).SameClaim (b.row r)
  robots    : ∀ k, (c.robot k).SameClaim (b.robot k)

namespace Quiet

theorem refl (b : Block) : Quiet b b := ⟨rfl, rfl, rfl, fun _ => .refl _, fun _ => .refl _⟩

theorem trans (h : Quiet a b) (h' : Quiet b c) : Quiet a c :=
  ⟨h'.deadlines.trans h.deadlines, h'.link.trans h.link, h'.shuttles.trans h.shuttles,
    fun r => ⟨(h'.rows r).1.trans (h.rows r).1, (h'.rows r).2.trans (h.rows r).2⟩,
    fun k => ⟨(h'.robots k).1.trans (h.robots k).1, (h'.robots k).2.1.trans (h.robots k).2.1,
      (h'.robots k).2.2.trans (h.robots k).2.2⟩⟩

theorem shuttle (h : Quiet b c) (u : ShuttleId) : c.shuttle u = b.shuttle u := by unfold Block.shuttle; rw [h.shuttles]

theorem modRow {r : RowId} {g : RowState → RowState} (h : (g (b.row r)).SameClaim (b.row r)) : Quiet b (b.modRow r g) := by
  refine ⟨rfl, rfl, rfl, fun r' => ?_, fun _ => .refl _⟩
  rw [Block.row_modRow]
  split
  · next e => exact e ▸ h
  · rfl

theorem modRobot {k : RobotId} {g : Robot → Robot} (h : (g (b.robot k)).SameClaim (b.robot k)) :
    Quiet b (b.modRobot k g) := by
  refine ⟨rfl, rfl, rfl, fun _ => .refl _, fun j => ?_⟩
  rw [Block.robot_modRobot]
  split
  · next e => exact e ▸ h
  · rfl

theorem mapRows {g : RowId → RowState → RowState} (h : ∀ r, (g r (b.row r)).SameClaim (b.row r)) : Quiet b (b.mapRows g) :=
  ⟨rfl, rfl, rfl, fun r => by rw [Block.row_mapRows]; exact h r, fun _ => .refl _⟩

theorem mapRobots {g : RobotId → Robot → Robot} (h : ∀ k, (g k (b.robot k)).SameClaim (b.robot k)) :
    Quiet b (b.mapRobots g) :=
  ⟨rfl, rfl, rfl, fun _ => .refl _, fun k => by rw [Block.robot_mapRobots]; exact h k⟩

/-- A change beside the five parts that the laws read. -/
theorem of_eq (deadlines : c.deadlines = b.deadlines) (link : c.link = b.link) (shuttles : c.shuttles = b.shuttles)
    (rows : c.rows = b.rows) (robots : c.robots = b.robots) : Quiet b c :=
  ⟨deadlines, link, shuttles, fun r => by unfold Block.row; rw [rows], fun k => by unfold Block.robot; rw [robots]⟩

theorem foldl {α : Type} {f : Block → α → Block} (step : ∀ c x, Quiet c (f c x)) (l : List α) (b : Block) :
    Quiet b (l.foldl f b) := by
  induction l generalizing b with
  | nil => exact refl b
  | cons x xs ih => exact (step b x).trans (ih _)

theorem setOutcome (b : Block) (k : RobotId) (x : RobotOutcome) : Quiet b (b.setOutcome k x) := modRobot ⟨rfl, rfl, rfl⟩
theorem setOrder (b : Block) (k : RobotId) (x : Order) : Quiet b (b.setOrder k x) := modRobot ⟨rfl, rfl, rfl⟩
theorem unreserve (b : Block) (r : RowId) : Quiet b (b.unreserve r) := modRow ⟨rfl, rfl⟩
theorem strand (b : Block) (r : RowId) : Quiet b (b.modRow r RowState.strand) := modRow ⟨rfl, rfl⟩
theorem classAnew (b : Block) (e : Env) (r : RowId) : Quiet b (b.classAnew e r) := modRow ⟨rfl, rfl⟩
theorem setWeather (b : Block) (w : Weather) : Quiet b (b.setWeather w) := of_eq rfl rfl rfl rfl rfl
theorem stand (b : Block) (k : RobotId) (st : Standing) : Quiet b (b.stand k st) := modRobot ⟨rfl, rfl, rfl⟩
theorem orderBrace (b : Block) (k : RobotId) : Quiet b (b.orderBrace k) := (setOrder b k .brace).trans (stand _ k .unparked)

theorem finishRound (b : Block) (k : RobotId) : Quiet b (b.finishRound k).1 := by
  unfold Block.finishRound
  split
  · exact refl b
  · split
    · exact modRobot ⟨rfl, rfl, rfl⟩
    · exact refl b

theorem settleEntry (b : Block) (k : RobotId) (r : RowId) (which : Entry → Bool) (st : EntryState) (why : Option SkipReason) :
    Quiet b (b.settleEntry k r which st why).1 := by
  unfold Block.settleEntry
  split
  · exact refl b
  · split
    · exact ((modRobot ⟨rfl, rfl, rfl⟩).trans (unreserve _ r)).trans (finishRound _ k)
    · exact refl b

theorem releaseOpen (b : Block) (rd : Round) : Quiet b (b.releaseOpen rd) := foldl (fun c (x : Entry) => unreserve c x.row) _ b

theorem discardRound (b : Block) (k : RobotId) : Quiet b (b.discardRound k) := by
  unfold Block.discardRound
  split
  · exact refl b
  · exact (releaseOpen b _).trans (modRobot ⟨rfl, rfl, rfl⟩)

theorem nothingToTake (b : Block) (k : RobotId) : Quiet b (b.nothingToTake k).1 := by
  unfold Block.nothingToTake
  split
  · exact refl b
  · exact setOrder b k .attend
  · exact refl b

theorem settleFailed (b : Block) (k : RobotId) (dest : Dest) (why : FailReason) : Quiet b (b.settleFailed k dest why).1 := by
  unfold Block.settleFailed
  split
  · exact refl b
  · split
    · split
      · exact refl b
      · exact modRobot ⟨rfl, rfl, rfl⟩
    all_goals exact settleEntry b k _ _ _ _

theorem failHandOn (b : Block) (t : Transfer) (why : FailReason) : Quiet b (b.failHandOn t why).1 := by
  unfold Block.failHandOn
  split
  · exact refl b
  · split
    · exact nothingToTake b _
    · exact settleFailed b _ _ why
  · exact modRobot ⟨rfl, rfl, rfl⟩
  all_goals
    split
    · exact refl b
    · exact nothingToTake b _

theorem setEntered (b : Block) (k : RobotId) (r : RowId) : Quiet b (b.setEntered k r) := by
  unfold Block.setEntered
  split
  · exact refl b
  · exact modRobot ⟨rfl, rfl, rfl⟩

theorem buildRound (b : Block) (k : RobotId) (s : RowId) (rows : List RowId) : Quiet b (b.buildRound k s rows) :=
  (foldl (fun _ _ => modRow ⟨rfl, rfl⟩) rows b).trans (modRobot ⟨rfl, rfl, rfl⟩)

theorem pushParks (b : Block) : Quiet b b.pushParks :=
  mapRobots fun k => by split <;> exact ⟨rfl, rfl, rfl⟩

theorem strandHeld (b : Block) : Quiet b b.strandHeld := mapRows fun r => by
  split
  · split <;> exact ⟨rfl, rfl⟩
  · rfl

theorem clearParkWaits (b : Block) : Quiet b b.clearParkWaits := mapRobots fun _ => ⟨rfl, rfl, rfl⟩

theorem noPlace (b : Block) (k : RobotId) : Quiet b (b.noPlace k) := by
  unfold Block.noPlace
  split
  · exact (setOrder b k .attend).trans (stand _ k .unparked)
  · exact orderBrace b k

theorem deadlinePlace (b : Block) (k : RobotId) : Quiet b (b.deadlinePlace k) := by
  unfold Block.deadlinePlace
  split
  iterate 3 exact orderBrace b k
  iterate 2 exact (strand b _).trans (orderBrace _ k)
  · split
    · exact refl b
    · exact (stand b k .unparked).trans (setOrder _ k .attend)
  · exact (stand b k .unparked).trans (setOrder _ k .attend)
  · exact refl b

theorem takeNotices (b : Block) (e : Env) (start : RowId) : Quiet b (b.takeNotices e start) :=
  mapRows fun r => by split <;> exact ⟨rfl, rfl⟩

theorem takeOutcomes (b : Block) : Quiet b b.takeOutcomes := mapRobots fun k => by split <;> exact ⟨rfl, rfl, rfl⟩

theorem reconcileRound (b : Block) (t : Transfer) : Quiet b (b.reconcileRound t).1 := by
  unfold Block.reconcileRound
  split
  · exact settleFailed b _ _ .link
  · exact setOrder b _ .attend
  · exact refl b

theorem reconcileHandOn (b : Block) (t : Transfer) : Quiet b (b.reconcileHandOn t).1 := by
  unfold Block.reconcileHandOn
  dsimp only
  split
  · exact reconcileRound b t
  · split
    iterate 2 exact (reconcileRound b t).trans (modRobot ⟨rfl, rfl, rfl⟩)
    all_goals exact reconcileRound b t

end Quiet

/-! ## What a rule keeps -/

/-- From `b` to `c` the laws of the lists and queues are kept, each for itself, and the claim laws. -/
structure Keeps (e : Env) (b c : Block) : Prop where
  lists  : ListsKept b c
  claims : Claims e b → Claims e c

theorem Quiet.keeps (h : Quiet b c) : Keeps e b c :=
  ⟨.of_eq h.deadlines h.link h.shuttles, fun hb => hb.same h.rows h.robots fun u => by rw [h.shuttle u]⟩

namespace Keeps

theorem refl (b : Block) : Keeps e b b := ⟨.refl b, id⟩

theorem trans (h : Keeps e a b) (h' : Keeps e b c) : Keeps e a c := ⟨h.lists.trans h'.lists, h'.claims ∘ h.claims⟩

/-- A change that the claim laws do not read. -/
theorem of_lists (lists : ListsKept b c) (rows : ∀ r, (c.row r).SameClaim (b.row r))
    (robots : ∀ k, (c.robot k).SameClaim (b.robot k)) (shuttles : ∀ u, (c.shuttle u).SameWork (b.shuttle u)) : Keeps e b c :=
  ⟨lists, fun h => h.same rows robots shuttles⟩

/-- A change beside the parts that the laws read. -/
theorem of_eq (deadlines : c.deadlines = b.deadlines) (link : c.link = b.link) (shuttles : c.shuttles = b.shuttles)
    (rows : c.rows = b.rows) (robots : c.robots = b.robots) : Keeps e b c :=
  (Quiet.of_eq deadlines link shuttles rows robots).keeps

theorem arm (e' : Env) (kind : DeadlineKind) (n : Nat) (b : Block) : Keeps e b (b.arm e' kind n) :=
  of_lists (.arm e' kind n b) (fun _ => .refl _) (fun _ => .refl _) fun _ => .refl _

theorem cancel (b : Block) (kind : DeadlineKind) : Keeps e b (b.cancel kind) :=
  of_lists (.cancel b kind) (fun _ => .refl _) (fun _ => .refl _) fun _ => .refl _

theorem withdrawLink (b : Block) (s : ShuttleId) : Keeps e b (b.withdrawLink s) :=
  of_lists (.withdrawLink b s) (fun _ => .refl _) (fun _ => .refl _) fun _ => .refl _

/-- A placement for a shuttle that is not down (R84), after a change that keeps the laws. -/
theorem then_placeLink {s : ShuttleId} (h : Keeps e a b) (up : a.DownAreSilent → ¬ (b.shuttle s).Down) (op : LinkOp)
    (counts : Bool) : Keeps e a (b.placeLink s op counts) :=
  ⟨h.lists.then_placeLink up op counts, fun ha =>
    (h.claims ha).same (fun _ => by simp; rfl) (fun _ => by simp; rfl) fun _ => by simp; rfl⟩

theorem placeStatus {s : ShuttleId} (up : ¬ (b.shuttle s).Down) : Keeps e b (b.placeStatus s) :=
  (refl b).then_placeLink (fun _ => up) _ _

theorem discardFlight (b : Block) (s : ShuttleId) : Keeps e b (b.discardFlight s) := by
  refine of_lists (.discardFlight b s) ?_ ?_ ?_ <;> rw [Block.discardFlight_eq] <;> exact fun _ => by rfl

/-- A shuttle's change of its poll, position, load, cause and marks alone, in which a FAULTED or OFFLINE one is not polled. -/
theorem modShuttle {s : ShuttleId} {g : Shuttle → Shuttle} (same : (g (b.shuttle s)).SameWork (b.shuttle s))
    (poll : (b.shuttle s).Down → (b.shuttle s).pollDue = none → (g (b.shuttle s)).pollDue = none) :
    Keeps e b (b.modShuttle s g) := by
  refine of_lists (.modShuttle (fun hd => ?_) ?_) (fun _ => .refl _) (fun _ => .refl _) fun u => ?_
  · have hd : (b.shuttle s).Down := by simpa only [Shuttle.Down, same.2.2] using hd
    exact ⟨hd, poll hd⟩
  · simp only [Shuttle.tags, same.1]; exact .refl _
  · rw [Block.shuttle_modShuttle]
    split
    · next h => exact h ▸ same
    · rfl

/-- A change of tracker states that come to no pending hold and that the holders still fit. -/
theorem track (lists : ListsKept b c) (robots : ∀ k, c.robot k = b.robot k) (shuttles : ∀ u, c.shuttle u = b.shuttle u)
    (holder : ∀ r, (c.row r).holder = (b.row r).holder)
    (tracker : ∀ r, (c.row r).tracker = (b.row r).tracker
      ∨ ((c.row r).tracker ≠ .holdPending
        ∧ ∀ k, (b.row r).holder = some k → HolderFits e r (b.row r) (b.robot k) → HolderFits e r (c.row r) (b.robot k))) :
    Keeps e b c :=
  ⟨lists, fun h => ⟨h.holds.track robots holder tracker,
    h.records.toQueued.same (fun k => by rw [robots k]) fun u => by rw [shuttles u],
    fun k => by rw [robots k]; exact h.records.robots k⟩⟩

/-- The same of one row. -/
theorem trackRow {r : RowId} {g : RowState → RowState} (holder : (g (b.row r)).holder = (b.row r).holder)
    (tracker : (g (b.row r)).tracker = (b.row r).tracker
      ∨ ((g (b.row r)).tracker ≠ .holdPending
        ∧ ∀ k, (b.row r).holder = some k → HolderFits e r (b.row r) (b.robot k) →
            HolderFits e r (g (b.row r)) (b.robot k))) :
    Keeps e b (b.modRow r g) := by
  refine track (.modRow b r g) (fun _ => rfl) (fun _ => rfl) (fun r' => ?_) fun r' => ?_
  · rw [Block.row_modRow]
    split
    · next h => exact h ▸ holder
    · rfl
  · rw [Block.row_modRow]
    split
    · next h => exact h ▸ tracker
    · exact .inl rfl

/-- A row that no robot holds comes to any tracker state but a pending hold. -/
theorem trackFree {r : RowId} {g : RowState → RowState} (holder : (g (b.row r)).holder = (b.row r).holder)
    (free : (b.row r).holder = none) (tracker : (g (b.row r)).tracker ≠ .holdPending) : Keeps e b (b.modRow r g) :=
  trackRow holder (.inr ⟨tracker, fun k hk => by simp [free] at hk⟩)

end Keeps

end Sys2Proof.Machine
end

section
/-! PROOF. The rules of the holds keep the laws (chapter 2, R173, R174). -/

namespace Sys2Proof.Machine

open Sys2Proof

variable {e : Env} {b c : Block} {k : RobotId} {r : RowId}

/-! ## Robots at rest and on rows -/

theorem Robot.idleAt_some {x : Robot} (h : x.idleAt = some r) : x.mode = .idle ∧ x.location = .rowEnd r := by
  unfold Robot.idleAt at h
  split at h
  · next hm hl => cases h; exact ⟨hm, hl⟩
  · cases h

theorem Robot.ridingOn_some {x : Robot} (h : x.ridingOn = some r) : x.mode = .onRow ∧ x.location = .onRow r := by
  unfold Robot.ridingOn at h
  split at h
  · next hm hl => cases h; exact ⟨hm, hl⟩
  · cases h

/-- A robot that moves takes the state it moves to, or keeps FAULTED (R63). -/
theorem keepFaulted_or (x : Robot) (m : RobotMode) : keepFaulted x m = m ∨ keepFaulted x m = .faulted := by
  unfold keepFaulted
  split
  · exact .inr rfl
  · exact .inl rfl

/-- The row found for a robot is one that it holds. -/
theorem heldRow_some (h : b.heldRow k = some r) : (b.row r).holder = some k := by
  simpa using List.find?_some h

theorem heldRow_none (h : b.heldRow k = none) (r : RowId) : (b.row r).holder ≠ some k := by
  have := List.find?_eq_none.mp h r (List.mem_finRange r)
  simpa using this

/-- A robot at a row end that it does not leave fits where it fitted. -/
theorem RobotFits.of_place {z : Robot} (transfer : z.transfer = none)
    (place : ∀ r, (z.location = .rowEnd r ∨ z.location = .onRow r) → (e.row r).present = true) : RobotFits e z :=
  ⟨fun _ => transfer, fun r _ hl => place r hl⟩

/-- A holder fits its row in another tracker state in which it may ride. -/
theorem HolderFits.retrack {x y : RowState} {z : Robot} (h : HolderFits e r x z) (was : x.tracker ≠ .holdPending)
    (now : y.tracker ≠ .holdPending ∧ y.tracker ≠ .tracking ∧ y.tracker ≠ .faulted)
    (stowed : y.tracker = .stowReleased ∨ y.tracker = .stowed → z.mode = .braced) : HolderFits e r y z := by
  obtain ⟨location, mode, -, -⟩ := h.rides was
  exact ⟨h.present, h.transfer, fun hp => absurd hp now.1, fun _ => ⟨location, mode, now.2⟩, stowed⟩

/-- A change of one row and of the one robot that holds it before or after, with no transfer at stake. -/
theorem Claims.hold (h : Claims e b) (only : ∀ r', r' ≠ r → (b.row r').holder ≠ some k)
    (was : (b.row r).holder = none ∨ (b.row r).holder = some k)
    (now : ((c.row r).holder = none ∧ (c.row r).tracker ≠ .holdPending ∧ ∀ r', (c.robot k).location ≠ .onRow r')
      ∨ ((c.row r).holder = some k ∧ HolderFits e r (c.row r) (c.robot k)))
    (fits : RobotFits e (c.robot k)) (transfer : (b.robot k).transfer = none) (kept : (c.robot k).transfer = none)
    (others : ∀ j, j ≠ k → c.robot j = b.robot j) (rows : ∀ r', r' ≠ r → c.row r' = b.row r')
    (shuttles : ∀ u, c.shuttle u = b.shuttle u) : Claims e c :=
  ⟨h.holds.hold only was now others rows,
    h.records.toQueued.robot (kept.trans transfer.symm) (fun u tag _ ht => by simp [transfer] at ht) others
      fun u => by rw [shuttles u],
    RobotFits.all (fun j _ => h.records.robots j) fits others⟩

/-! ## Tracker states -/

theorem RowState.toReturn_holder (w : Weather) (x : RowState) : (x.toReturn w).holder = x.holder := by
  unfold RowState.toReturn
  split
  · rfl
  · split <;> rfl

/-- A return state is no pending hold (R26). -/
theorem RowState.toReturn_tracker (w : Weather) (x : RowState) : (x.toReturn w).tracker ≠ .holdPending := by
  unfold RowState.toReturn
  split
  · simp
  · split <;> simp

theorem RowState.toRelease_holder (braced : Bool) (x : RowState) : (x.toRelease braced).holder = x.holder := by
  unfold RowState.toRelease
  split
  iterate 3 split <;> rfl
  all_goals rfl

/-- A stow release leaves the tracker state, or is made of a row that no robot holds or a braced one does (R32). -/
theorem RowState.toRelease_tracker (braced : Bool) (x : RowState) :
    (x.toRelease braced).tracker = x.tracker
      ∨ (((x.toRelease braced).tracker = .stowReleased ∨ (x.toRelease braced).tracker = .stowed)
        ∧ x.tracker ≠ .holdPending ∧ (x.holder = none ∨ braced = true)) := by
  unfold RowState.toRelease
  cases ht : x.tracker <;> dsimp only
  case tracking =>
    split
    · next h => exact .inr ⟨.inl rfl, by simp, .inl (by simpa using h)⟩
    · exact .inl ht
  case held =>
    split
    · next h => exact .inr ⟨.inl rfl, by simp, .inr h⟩
    · exact .inl ht
  case unstowWanted =>
    split
    · next h => exact .inr ⟨.inr rfl, by simp, by simpa using h⟩
    · exact .inl ht
  all_goals exact .inl ht

/-- The holder of a row still fits it after a stow release (R32). -/
theorem toRelease_fits (b : Block) (r : RowId) (x : RowState) :
    (x.toRelease (b.holderBraced x)).tracker = x.tracker
      ∨ ((x.toRelease (b.holderBraced x)).tracker ≠ .holdPending
        ∧ ∀ k, x.holder = some k → HolderFits e r x (b.robot k) →
            HolderFits e r (x.toRelease (b.holderBraced x)) (b.robot k)) := by
  refine (RowState.toRelease_tracker (b.holderBraced x) x).imp id fun ⟨now, was, free⟩ => ⟨?_, fun k hk hf => ?_⟩
  · obtain h | h := now <;> simp [h]
  · have braced : (b.robot k).mode = .braced := by
      obtain h | h := free
      · simp [h] at hk
      · simpa [Block.holderBraced, hk] using h
    exact hf.retrack was (by obtain h | h := now <;> simp [h]) fun _ => braced

theorem Keeps.stowRelease (b : Block) (r : RowId) : Keeps e b (b.stowRelease r) :=
  .trackRow (RowState.toRelease_holder _ _) (toRelease_fits b r _)

theorem Keeps.releaseAll (e' : Env) (b : Block) : Keeps e b (b.releaseAll e') := by
  refine .track (.of_eq rfl rfl rfl) (fun _ => rfl) (fun _ => rfl) (fun r => ?_) fun r => ?_
  · unfold Block.releaseAll
    rw [Block.row_mapRows]
    split
    · exact RowState.toRelease_holder _ _
    · rfl
  · unfold Block.releaseAll
    rw [Block.row_mapRows]
    split
    · exact toRelease_fits b r _
    · exact .inl rfl

theorem RowState.toUnstow_holder (x : RowState) : x.toUnstow.holder = x.holder := by unfold RowState.toUnstow; split <;> rfl
theorem RowState.toResume_holder (x : RowState) : x.toResume.holder = x.holder := by unfold RowState.toResume; split <;> rfl
theorem RowState.toHold_holder (x : RowState) : x.toHold.holder = x.holder := by unfold RowState.toHold; split <;> rfl

theorem RowState.toResume_tracker (x : RowState) :
    x.toResume.tracker = x.tracker ∨ (x.toResume.tracker = .tracking ∧ x.holder = none) := by
  unfold RowState.toResume
  split
  · next h => exact .inr ⟨rfl, h.2⟩
  · exact .inl rfl

theorem RowState.toUnstow_tracker (x : RowState) :
    x.toUnstow.tracker = x.tracker ∨ (x.toUnstow.tracker = .unstowWanted ∧ x.tracker = .stowed) := by
  unfold RowState.toUnstow
  split
  · next h => exact .inr ⟨rfl, h⟩
  · exact .inl rfl

/-- A holder fits its row after an unstow request and a recovery resume (R34, R35). -/
theorem toUnstow_toResume_fits (x : RowState) (z : RobotId → Robot) :
    x.toUnstow.toResume.tracker = x.tracker
      ∨ (x.toUnstow.toResume.tracker ≠ .holdPending
        ∧ ∀ k, x.holder = some k → HolderFits e r x (z k) → HolderFits e r x.toUnstow.toResume (z k)) := by
  obtain h1 | ⟨h1, h1'⟩ := x.toUnstow_tracker <;> obtain h2 | ⟨h2, h2'⟩ := x.toUnstow.toResume_tracker
  · exact .inl (h2.trans h1)
  · exact .inr ⟨by simp [h2], fun k hk => by simp [← x.toUnstow_holder, h2'] at hk⟩
  · rw [h1] at h2
    exact .inr ⟨by simp [h2], fun k _ hf => hf.retrack (by simp [h1']) (by simp [h2]) (by simp [h2])⟩
  · exact .inr ⟨by simp [h2], fun k hk => by simp [← x.toUnstow_holder, h2'] at hk⟩

/-! ## Claims made, granted and ended -/

theorem enterCheck_none (h : enterCheck b k r = none) : (b.row r).holder = none ∧ (b.robot k).idleAt = some r := by
  unfold enterCheck at h
  dsimp only at h
  split at h
  · cases h
  · split at h
    · cases h
    · split at h
      · cases h
      · next hh =>
        split at h
        · cases h
        · next hi => exact ⟨hh, not_not.mp hi⟩

/-- An accepted claim (R22, R23). -/
theorem Keeps.claimRow (h : enterCheck b k r = none) : Keeps e b (b.claimRow e k r) := by
  obtain ⟨free, idle⟩ := enterCheck_none h
  obtain ⟨mode, location⟩ := Robot.idleAt_some idle
  refine ⟨(ListsKept.modRow b r _).trans ((ListsKept.modRobot _ k _).trans (.arm e _ _ _)), fun hc => ?_⟩
  have transfer : (b.robot k).transfer = none := (hc.records.robots k).untasked (.inr (.inl mode))
  have present : (e.row r).present = true := (hc.records.robots k).place r (by simp [mode]) (.inl location)
  refine hc.hold (r := r) (k := k) (fun r' _ => hc.holds.free_of_mode (.inr (.inl mode)) r') (.inl free) (.inr ⟨?_, ?_⟩) ?_
    transfer ?_ (fun j hj => ?_) (fun r' hr => ?_) fun _ => rfl
  · simp [Block.claimRow]
  · constructor <;> simp [Block.claimRow, present, transfer, location]
  · refine .of_place (by simp [Block.claimRow, transfer]) fun r' hl => ?_
    obtain rfl : r = r' := by simpa [Block.claimRow, location] using hl
    exact present
  · simp [Block.claimRow, transfer]
  · simp [Block.claimRow, Ne.symm hj]
  · simp [Block.claimRow, Ne.symm hr]

/-- The end of a pending claim (R25, R30). -/
theorem Keeps.endClaim (fault : Bool) (holder : (b.row r).holder = some k) (pending : (b.row r).tracker = .holdPending) :
    Keeps e b (b.endClaim k r fault).1 := by
  unfold Block.endClaim
  dsimp only
  refine Keeps.trans ⟨(ListsKept.modRow b r _).trans (.modRobot _ k _), fun hc => ?_⟩ (Quiet.settleEntry _ k r _ _ _).keeps
  have hf := hc.holds.fits r k holder
  obtain ⟨location, mode⟩ := hf.waits pending
  have place : ∀ r', ((b.robot k).location = .rowEnd r' ∨ (b.robot k).location = .onRow r') → (e.row r').present = true :=
    fun r' hl => by
      obtain rfl : r = r' := by simpa [location] using hl
      exact hf.present
  refine hc.hold (r := r) (k := k) (fun r' hr hk => hr (hc.holds.one_row hk holder)) (.inr holder) (.inl ⟨?_, ?_, ?_⟩) ?_
    hf.transfer ?_ (fun j hj => ?_) (fun r' hr => ?_) fun _ => rfl
  · simp only [Block.modRobot_row, Block.row_modRow, if_true]
    split
    · rfl
    · exact RowState.toReturn_holder _ _
  · simp only [Block.modRobot_row, Block.row_modRow, if_true]
    split
    · simp
    · exact RowState.toReturn_tracker _ _
  · simp [location]
  · exact .of_place (by simpa using hf.transfer) (by simpa using place)
  · simpa using hf.transfer
  · simp [Ne.symm hj]
  · simp [Ne.symm hr]

theorem Keeps.holdConfirmExpired (k : RobotId) (b : Block) : Keeps e b (holdConfirmExpired k b).1 := by
  unfold Machine.holdConfirmExpired
  split
  · next r h =>
    have := List.find?_some h
    simp only [Bool.and_eq_true, beq_iff_eq] at this
    exact .endClaim false this.1 this.2
  · exact .refl b

theorem Keeps.holdLimitExpired (k : RobotId) (b : Block) : Keeps e b (holdLimitExpired k b).1 := by
  unfold Machine.holdLimitExpired
  split
  · have mark (r : RowId) : Quiet b (b.modRow r fun x => { x with overstay := true }) := .modRow ⟨rfl, rfl⟩
    dsimp only
    split
    · exact ((mark _).trans (.setOrder _ k .exit)).keeps
    · exact (mark _).keeps
  · exact .refl b

/-- The grant of a pending hold (R24). -/
theorem Keeps.grantHold (holder : (b.row r).holder = some k) :
    Keeps e b (b.grantHold e k r) := by
  unfold Block.grantHold
  refine Keeps.trans ?_ (Quiet.setEntered _ k r).keeps
  refine Keeps.trans ?_ ((Keeps.cancel _ _).trans (.arm e _ _ _))
  refine ⟨(ListsKept.modRow b r _).trans (.modRobot _ k _), fun hc => ?_⟩
  have hf := hc.holds.fits r k holder
  refine hc.hold (r := r) (k := k) (fun r' hr hk => hr (hc.holds.one_row hk holder)) (.inr holder) (.inr ⟨?_, ?_⟩) ?_
    hf.transfer ?_ (fun j hj => ?_) (fun r' hr => ?_) fun _ => rfl
  · simpa using holder
  · constructor <;> simp [hf.present, hf.transfer]
    exact (keepFaulted_or _ .onRow).imp id .inr
  · refine .of_place (by simpa using hf.transfer) fun r' hl => ?_
    obtain rfl : r = r' := by simpa using hl
    exact hf.present
  · simpa using hf.transfer
  · simp [Ne.symm hj]
  · simp [Ne.symm hr]

theorem RowState.vacate_free (w : Weather) (k : RobotId) (x : RowState) : (x.vacate w k).holder = none := by
  unfold RowState.vacate RowState.exited
  split
  · exact RowState.toReturn_holder _ _
  · split
    · rfl
    · split
      · exact RowState.toResume_holder _
      · rfl

/-- An exit of a row that is no pending hold leaves none (R29). -/
theorem RowState.vacate_tracker (w : Weather) (k : RobotId) {x : RowState} (h : x.tracker ≠ .holdPending) :
    (x.vacate w k).tracker ≠ .holdPending := by
  unfold RowState.vacate RowState.exited
  split
  · exact RowState.toReturn_tracker _ _
  · split
    · simp
    · split
      · rcases RowState.toResume_tracker
          { x with holder := none, occupant := some k, overstay := false, stranded := false } with h' | ⟨h', -⟩
        · rw [h']; exact h
        · simp [h']
      · exact h

/-- An exit (R29). -/
theorem Keeps.exitRow (riding : (b.robot k).ridingOn = some r) : Keeps e b (b.exitRow e k r).1 := by
  obtain ⟨mode, location⟩ := Robot.ridingOn_some riding
  unfold Block.exitRow
  dsimp only
  refine Keeps.trans ?_ (Quiet.settleEntry _ k r _ _ _).keeps
  have main : Keeps e b (((b.cancel (.holdLimit k)).modRow r (RowState.vacate b.weather k)).modRobot k (Robot.leaveRow r)) := by
    refine ⟨((ListsKept.cancel b _).trans (.modRow _ r _)).trans (.modRobot _ k _), fun hc => ?_⟩
    obtain ⟨holder, tracker⟩ := hc.holds.rider k r location
    have hf := hc.holds.fits r k holder
    refine hc.hold (r := r) (k := k) (fun r' hr hk => hr (hc.holds.one_row hk holder)) (.inr holder) (.inl ⟨?_, ?_, ?_⟩) ?_
      hf.transfer ?_ (fun j hj => ?_) (fun r' hr => ?_) fun _ => rfl
    · simpa using RowState.vacate_free _ _ _
    · simpa using RowState.vacate_tracker _ _ tracker
    · simp [Robot.leaveRow]
    · refine .of_place (by simpa [Robot.leaveRow] using hf.transfer) fun r' hl => ?_
      obtain rfl : r = r' := by simpa [Robot.leaveRow] using hl
      exact hf.present
    · simpa [Robot.leaveRow] using hf.transfer
    · simp [Ne.symm hj]
    · simp [Ne.symm hr]
  split
  · rw [Block.classAnew, ← Block.modRobot_modRow]
    exact main.trans (Quiet.modRow ⟨rfl, rfl⟩).keeps
  · exact main

/-! ## Tracker faults, stow and unstow -/

theorem surfaceHolder_none (h : Holds e b) (free : b.surfaceHolder r = none) (was : (b.row r).tracker ≠ .holdPending) :
    (b.row r).holder = none := by
  cases hk : (b.row r).holder with
  | none => rfl
  | some k => simp [Block.surfaceHolder, hk, ((h.fits r k hk).rides was).1] at free

theorem Keeps.rowFaulted (r : RowId) (b : Block) : Keeps e b (rowFaulted r b).1 := by
  unfold Machine.rowFaulted
  split
  · next k ht hk => exact (Keeps.cancel b _).trans (.endClaim true hk ht)
  · next hno =>
    split
    · exact (Quiet.modRow ⟨rfl, rfl⟩).keeps
    · next free =>
      refine ⟨.modRow b r _, fun hc => (Keeps.trackFree rfl ?_ (by simp [RowState.break])).claims hc⟩
      by_cases hp : (b.row r).tracker = .holdPending
      · cases hk : (b.row r).holder with
        | none => rfl
        | some k => exact absurd hk (hno k hp)
      · exact surfaceHolder_none hc.holds free hp

theorem faulted_free (h : Holds e b) (ht : (b.row r).tracker = .faulted) : (b.row r).holder = none := by
  cases hk : (b.row r).holder with
  | none => rfl
  | some k => exact absurd ht ((h.fits r k hk).rides (by simp [ht])).2.2.2

theorem Keeps.repaired (storm : Bool) (h : (b.row r).tracker = .faulted) : Keeps e b (b.modRow r (RowState.repaired storm)) :=
  ⟨.modRow b r _, fun hc => (Keeps.trackFree rfl (faulted_free hc.holds h)
    (by unfold RowState.repaired; cases storm <;> simp)).claims hc⟩

theorem Keeps.stow (w : Weather) (h : (b.row r).tracker = .stowReleased) : Keeps e b (b.modRow r (RowState.stow w)) := by
  have holder (x : RowState) : (x.stow w).holder = x.holder := by
    unfold RowState.stow
    split
    · exact RowState.toUnstow_holder _
    · rfl
  have tracker (x : RowState) : (x.stow w).tracker = .stowed ∨ (x.stow w).tracker = .unstowWanted := by
    unfold RowState.stow RowState.toUnstow
    split
    · simp
    · exact .inl rfl
  refine .trackRow (holder _) (.inr ⟨?_, fun k _ hf => hf.retrack (by simp [h]) ?_ fun _ => hf.stowed (.inl h)⟩)
  · obtain h | h := tracker (b.row r) <;> simp [h]
  · obtain h | h := tracker (b.row r) <;> simp [h]

theorem Keeps.unstow (h : (b.row r).tracker = .unstowWanted) : Keeps e b (b.modRow r RowState.unstow) := by
  refine .trackRow rfl (.inr ⟨?_, fun k hk hf => hf.retrack (by simp [h]) ?_ ?_⟩)
  · unfold RowState.unstow; cases (b.row r).holder <;> simp
  all_goals simp [RowState.unstow, hk]

theorem Keeps.afterUnstow (b : Block) (r : RowId) : Keeps e b (b.afterUnstow r) := by
  unfold Block.afterUnstow
  dsimp only
  split
  · exact .stowRelease b r
  · split
    · exact (Quiet.strand b r).keeps
    · exact .refl b

theorem Keeps.restoreRow (e' : Env) (b : Block) (r : RowId) : Keeps e b (b.restoreRow e' r) := by
  unfold Block.restoreRow
  split
  · refine Keeps.trans ?_ (Quiet.classAnew _ e' r).keeps
    have holder : ((b.row r).restore b.weather).holder = (b.row r).holder := by
      unfold RowState.restore
      dsimp only
      split
      · exact RowState.toReturn_holder _ _
      · rfl
    refine .trackRow holder ?_
    unfold RowState.restore
    dsimp only
    split
    · next h => exact .inr ⟨RowState.toReturn_tracker _ _, fun k hk => by simp [h.2] at hk⟩
    · exact .inl rfl
  · exact .refl b

theorem Keeps.lateConfirm (b : Block) (r : RowId) : Keeps e b (b.modRow r RowState.lateConfirm) := by
  refine Quiet.keeps (.modRow ?_)
  unfold RowState.lateConfirm
  split <;> exact ⟨rfl, rfl⟩

/-! ## BRACED and UNBRACED -/

theorem ListsKept.brace (k : RobotId) (b : Block) : ListsKept b (b.brace k) := by
  unfold Block.brace
  dsimp only
  refine (ListsKept.modRobot b k (Robot.brace b.storm)).trans ?_
  split
  · split
    · exact .modRow _ _ _
    · exact .refl _
  · exact .refl _

/-- BRACED of a robot with no transfer (R173). -/
theorem Claims.brace (h : Claims e b) (allowed : braceAllowed b k = true) (transfer : (b.robot k).transfer = none) :
    Claims e (b.brace k) := by
  simp only [braceAllowed, Bool.and_eq_true, Bool.not_eq_true', List.any_eq_false, beq_iff_eq, not_and] at allowed
  obtain ⟨unpending, place⟩ := allowed
  have present : (b.robot k).mode ≠ .absent := by rintro hm; simp [hm] at place
  have main : Claims e (b.modRobot k (Robot.brace b.storm)) := by
    refine ⟨h.holds.remode (k := k) (by simp [Robot.brace]) (fun r hk hf => ?_) (fun j hj => by simp [Ne.symm hj])
      fun _ => .refl _, h.records.toQueued.robot (k := k) (by simp [Robot.brace])
        (fun u tag _ ht => by simp [transfer] at ht) (fun j hj => by simp [Ne.symm hj]) fun _ => .refl _,
      RobotFits.all (k := k) (fun j _ => h.records.robots j) ?_ fun j hj => by simp [Ne.symm hj]⟩
    · have was : (b.row r).tracker ≠ .holdPending := unpending r (List.mem_finRange r) hk
      obtain ⟨location, -, trackers⟩ := hf.rides was
      exact ⟨hf.present, by simpa [Robot.brace] using transfer, fun hp => absurd hp was,
        fun _ => ⟨by simpa [Robot.brace] using location, by simp [Robot.brace], trackers⟩, fun _ => by simp [Robot.brace]⟩
    · exact .of_place (by simpa [Robot.brace] using transfer) fun r hl =>
        (h.records.robots k).place r present (by simpa [Robot.brace] using hl)
  unfold Block.brace
  dsimp only
  split
  · split
    · exact (Keeps.stowRelease _ _).claims main
    · exact main
  · exact main

theorem Keeps.unbrace (mode : (b.robot k).mode = .braced) (unstowed : b.holdsStowed k = false) :
    Keeps e b (b.unbrace k).1 := by
  unfold Block.unbrace
  split
  · next r hr =>
    have holder := heldRow_some hr
    have tracker : (b.row r).tracker ≠ .stowed := by simpa [Block.holdsStowed, hr] using unstowed
    refine ⟨(ListsKept.modRow b r _).trans (.modRobot _ k _), fun hc => ?_⟩
    have hf := hc.holds.fits r k holder
    have was : (b.row r).tracker ≠ .holdPending := fun hp => by
      have := (hf.waits hp).2
      simp [mode] at this
    have held : (b.row r).toHold.tracker ≠ .holdPending ∧ (b.row r).toHold.tracker ≠ .tracking
        ∧ (b.row r).toHold.tracker ≠ .faulted ∧ (b.row r).toHold.tracker ≠ .stowReleased
        ∧ (b.row r).toHold.tracker ≠ .stowed := by
      obtain ⟨-, -, h1, h2⟩ := hf.rides was
      unfold RowState.toHold
      split
      · simp
      · next h => exact ⟨was, h1, h2, h, tracker⟩
    refine hc.hold (r := r) (k := k) (fun r' hr hk => hr (hc.holds.one_row hk holder)) (.inr holder) (.inr ⟨?_, ?_⟩) ?_
      hf.transfer ?_ (fun j hj => ?_) (fun r' hr => ?_) fun _ => rfl
    · simpa [RowState.toHold_holder] using holder
    · constructor <;> simp [Robot.unbrace, hf.present, hf.transfer, held]
      cases (b.robot k).faultPending <;> simp
    · refine .of_place (by simpa [Robot.unbrace] using hf.transfer) fun r' hl => ?_
      obtain rfl : r = r' := by simpa [Robot.unbrace] using hl
      exact hf.present
    · simpa [Robot.unbrace] using hf.transfer
    · simp [Ne.symm hj]
    · simp [Ne.symm hr]
  · next hr =>
    refine ⟨.modRobot b k _, fun hc => ?_⟩
    have free := heldRow_none hr
    have transfer := (hc.records.robots k).untasked (.inr (.inr (.inr (.inr (.inl mode)))))
    refine hc.robot (k := k) free (.of_place (by simpa [Robot.unbrace] using transfer) fun r hl =>
      (hc.records.robots k).place r (by simp [mode]) (by simpa [Robot.unbrace] using hl)) (fun r => ?_)
      (by simp [Robot.unbrace]) (fun u tag _ ht => by simp [transfer] at ht) (fun j hj => by simp [Ne.symm hj])
      (fun _ => .refl _) fun _ => .refl _
    simpa [Robot.unbrace] using hc.holds.off_surface free r

end Sys2Proof.Machine
end

section
/-! PROOF. The rules of the transfers keep the laws (chapter 4): acceptance, steps, failures, offers of work. -/

namespace Sys2Proof.Machine

open Sys2Proof

variable {e : Env} {b c : Block} {k : RobotId} {s : ShuttleId}

/-! ## Acceptance (R66, R67) -/

/-- A robot is taken from the row end at which it stands IDLE, or from the shuttle that carries it (R66, check 4). -/
theorem transferSource_some {x : Robot} {src : Source} (h : transferSource e x = some (src, some s)) :
    (∃ r, src = .rowEnd r ∧ x.mode = .idle ∧ x.location = .rowEnd r)
      ∨ (src = .carried s ∧ x.mode = .carried ∧ x.location = .carried s) := by
  unfold transferSource at h
  split at h
  · next r hm hl =>
    obtain ⟨rfl, -⟩ : Source.rowEnd r = src ∧ (e.row r).shuttle = some s := by simpa using h
    exact .inl ⟨r, rfl, hm, hl⟩
  · next hm hl => cases h; exact .inr ⟨rfl, hm, hl⟩
  · cases h

theorem routeCheck_ok {dest : Dest} {t : Tag} (h : routeCheck e b k dest s = .ok t) :
    (b.shuttle s).queue.length < 8 ∧ b.freeTag = some t := by
  unfold routeCheck at h
  extract_lets x noRoute locked busy at h
  iterate 3 (split at h; · cases h)
  split at h
  · cases h
  · next hl =>
    split at h
    · next hf => cases h; exact ⟨Nat.lt_of_not_le hl, hf⟩
    · cases h

/-- What an accepted request has passed (R66). -/
theorem transferCheck_ok {origin : Origin} {dest : Dest} {src : Source} {t : Tag}
    (h : transferCheck e b origin k dest = .ok (src, s, t)) :
    destPresent e dest = true ∧ transferSource e (b.robot k) = some (src, some s) ∧ (b.robot k).transfer = none
      ∧ (b.shuttle s).queue.length < 8 ∧ b.freeTag = some t := by
  unfold transferCheck at h
  dsimp only at h
  split at h
  · cases h
  · next hd =>
    split at h
    · cases h
    · split at h
      · cases h
      · next src' via hs =>
        split at h
        · cases h
        · next ht =>
          split at h
          · cases h
          · split at h
            · cases h
            · next u =>
              cases hr : routeCheck e b k dest u with
              | error c => simp [hr, Except.map] at h
              | ok t' =>
                simp only [hr, Except.map, Except.ok.injEq, Prod.mk.injEq] at h
                obtain ⟨rfl, rfl, rfl⟩ := h
                exact ⟨by simpa using hd, hs, by simpa using ht, routeCheck_ok hr⟩

theorem askTransfer_ok {origin : Origin} {dest : Dest} {t : Tag} (h : askTransfer e b origin k dest = .ok (c, s, t)) :
    ∃ src, transferCheck e b origin k dest = .ok (src, s, t) ∧ c = b.accept origin k dest src s t := by
  unfold askTransfer at h
  cases hc : transferCheck e b origin k dest with
  | error c => simp [hc, Except.map] at h
  | ok x =>
    obtain ⟨src, u, t'⟩ := x
    simp only [hc, Except.map, Except.ok.injEq, Prod.mk.injEq] at h
    obtain ⟨rfl, rfl, rfl⟩ := h
    exact ⟨src, rfl, rfl⟩

theorem reserveDest_quiet (b : Block) (dest : Dest) (t : Tag) : Quiet b (b.reserveDest dest t) := by
  unfold Block.reserveDest
  split
  · exact .modRow ⟨rfl, rfl⟩
  · exact .refl b

/-- An accepted transfer request (R66, R67, R68). -/
theorem Keeps.askTransfer {origin : Origin} {dest : Dest} {t : Tag} (h : askTransfer e b origin k dest = .ok (c, s, t)) :
    Keeps e b c := by
  obtain ⟨src, hcheck, rfl⟩ := askTransfer_ok h
  obtain ⟨hdest, hsrc, transfer, room, tag⟩ := transferCheck_ok hcheck
  have quiet := reserveDest_quiet b dest t
  refine ⟨?_, fun hc => ?_⟩
  · unfold Block.accept
    refine ((Quiet.keeps (e := e) quiet).lists.trans (.modRobot _ k _)).then_place ?_ fun _ => ?_
    · unfold Block.usedTags
      simp only [Block.modRobot_shuttle, quiet.shuttle]
      exact freeTag_unused tag
    · simpa only [Block.modRobot_shuttle, quiet.shuttle] using room
  · have rowOf (r : RowId) : (b.accept origin k dest src s t).row r = (b.reserveDest dest t).row r := rfl
    have robotOf (j : RobotId) : (b.reserveDest dest t).robot j = b.robot j := by
      unfold Block.reserveDest; split <;> rfl
    have place : (b.robot k).mode = .idle ∨ (b.robot k).mode = .carried := by
      obtain ⟨r, -, hm, -⟩ | ⟨-, hm, -⟩ := transferSource_some hsrc
      · exact .inl hm
      · exact .inr hm
    have free : ∀ r, (b.row r).holder ≠ some k := hc.holds.free_of_mode (by tauto)
    refine hc.place (s := s)
      (t := { tag := t, robot := k, source := src, dest := dest, origin := origin, step := .queued }) free (fun r => ?_)
      (freeTag_unused tag) transfer ?_ (by simp [Block.accept]) (fun u hl => ?_) ?_ (fun r hr => ?_) (fun r hr => ?_) rfl ?_
      (fun j hj => ?_) (fun u hu => ?_) fun r => ?_
    · simpa [Block.accept, robotOf] using hc.holds.off_surface free r
    · obtain ⟨r, rfl, hm, hl⟩ | ⟨rfl, hm, hl⟩ := transferSource_some hsrc
      · refine ⟨fun hu => by simp [Block.accept, robotOf, hl] at hu, fun r' _ hr' => ?_⟩
        exact (hc.records.robots k).place r' (by simp [hm]) (by simpa [Block.accept, robotOf] using hr')
      · exact ⟨fun hu => by simp [Block.accept, robotOf, hl, hm] at hu,
          fun r' _ hr' => by simp [Block.accept, robotOf, hl] at hr'⟩
    · replace hl : (b.robot k).location = .carried u := by simpa [Block.accept, robotOf] using hl
      obtain ⟨r, -, -, hl'⟩ | ⟨-, -, hl'⟩ := transferSource_some hsrc
      · simp [hl] at hl'
      · simpa [hl] using hl'
    · simp [Block.accept, quiet.shuttle]
    · obtain ⟨r', rfl, hm, hl⟩ | ⟨rfl, -, -⟩ := transferSource_some hsrc
      · obtain rfl : r' = r := by simpa using hr
        exact (hc.records.robots k).place r' (by simp [hm]) (.inl hl)
      · cases hr
    · subst hr; exact hdest
    · simp [Block.accept, quiet.shuttle]
    · simp [Block.accept, robotOf, Ne.symm hj]
    · simp [Block.accept, quiet.shuttle, Ne.symm hu]
    · exact quiet.rows r

/-! ## Steps (R70) -/

theorem startStep_shuttle (t : Transfer) (x : RunStep) (b : Block) (u : ShuttleId) :
    (b.startStep e s t x).shuttle u =
      if s = u then
        { b.shuttle s with
          mode := x.shuttleMode, pollDue := none, commandSent := false
          queue := setStep t.tag (.running x) (b.shuttle s).queue }
      else b.shuttle u := by
  unfold Block.startStep
  dsimp only
  split <;> split <;> simp

theorem startStep_robot (t : Transfer) (x : RunStep) (b : Block) (j : RobotId) :
    ((b.startStep e s t x).robot j).SameClaim (b.robot j) := by
  unfold Block.startStep
  dsimp only
  rw [Block.arm_robot]
  have commanded (c : Block) (hc : ∀ j, c.robot j = b.robot j) :
      ((if x = .moveToDest ∨ x = .unloading then c.modRobot t.robot fun z => { z with inGarage := false } else c).robot
        j).SameClaim (b.robot j) := by
    split
    · rw [Block.robot_modRobot]
      split
      · next h => subst h; rw [hc]; exact ⟨rfl, rfl, rfl⟩
      · rw [hc]
    · rw [hc]
  refine commanded _ fun j => ?_
  split <;> simp

theorem startStep_row (t : Transfer) (x : RunStep) (b : Block) (r : RowId) : (b.startStep e s t x).row r = b.row r := by
  unfold Block.startStep
  dsimp only
  split <;> split <;> simp

theorem RunStep.shuttleMode_or (x : RunStep) : x.shuttleMode = .moving ∨ x.shuttleMode = .docking := by
  cases x <;> simp [RunStep.shuttleMode]

/-- A step of the shuttle's current transfer starts (R70). -/
theorem Keeps.startStep {t : Transfer} (x : RunStep) (current : (b.shuttle s).current = some t.tag) :
    Keeps e b (b.startStep e s t x) := by
  have up : ∀ {z : Shuttle}, z.mode = x.shuttleMode → ¬ z.Down := fun {z} hz hd => by
    rcases x.shuttleMode_or with h | h <;> simp [Shuttle.Down, hz, h] at hd
  refine ⟨?_, fun hc => hc.shuttle (s := s) (fun r => by rw [startStep_row]) (startStep_robot t x b)
    (fun u hu => by rw [startStep_shuttle, if_neg (Ne.symm hu)]) ?_ (fun y hy => ?_) (fun y hy => ?_) fun y hy => ?_⟩
  · unfold Block.startStep
    dsimp only
    refine ListsKept.trans ?_ (.arm e _ _ _)
    have first : ListsKept b (b.modShuttle s fun z =>
        { z with mode := x.shuttleMode, pollDue := none, commandSent := false, queue := setStep t.tag (.running x) z.queue }) :=
      .modShuttle (fun hd => absurd hd (up rfl)) (by simp only [Shuttle.tags, setStep_tags]; exact .refl _)
    have second : ∀ op : Option LinkOp, ∀ d, ListsKept b d → ¬ (d.shuttle s).Down →
        ListsKept b (match op with | some op => d.placeLink s op false | none => d.withdrawLink s) := fun op d hd hup => by
      cases op with
      | some op => exact hd.then_placeLink (fun _ => hup) op false
      | none => exact hd.trans (.withdrawLink d s)
    split
    · exact (second _ _ first (up (by simp))).trans (.modRobot _ _ _)
    · exact second _ _ first (up (by simp))
  · rw [startStep_shuttle, if_pos rfl]
    simp only [Shuttle.tags, setStep_tags]
    exact .refl _
  · rw [startStep_shuttle, if_pos rfl] at hy
    obtain ⟨z, hz, rfl⟩ := mem_setStep.mp hy
    exact ⟨z, hz, by split <;> exact ⟨rfl, rfl⟩⟩
  · rw [startStep_shuttle, if_pos rfl]
    exact ⟨_, mem_setStep.mpr ⟨y, hy, rfl⟩, by split <;> exact ⟨rfl, rfl⟩⟩
  · rw [startStep_shuttle, if_pos rfl] at hy ⊢
    obtain ⟨z, hz, rfl⟩ := mem_setStep.mp hy
    have hf := hc.records.fits s z hz
    split
    · next htag => exact ⟨hf.source, hf.dest, fun _ => htag ▸ current, fun _ _ => x.shuttleMode_or⟩
    · exact ⟨hf.source, hf.dest, hf.current, fun _ _ => x.shuttleMode_or⟩

/-! ## Failure and removal (R75, R77) -/

/-- A robot whose record is removed has no transfer, and keeps its last known location (R75, part 3). -/
theorem leaveRobot_spec (t : Transfer) (s : ShuttleId) (x : Robot) :
    (t.leaveRobot s x).transfer = none
      ∧ ((t.leaveRobot s x).location = x.location ∨ (t.leaveRobot s x).location = .carried s)
      ∧ ((t.leaveRobot s x).mode = x.mode ∨ (x.mode = .waitTransfer ∧ (t.leaveRobot s x).mode = .idle)) := by
  unfold Transfer.leaveRobot
  dsimp only
  split
  iterate 3
    refine ⟨rfl, .inl rfl, ?_⟩
    by_cases h : x.mode = .waitTransfer <;> simp [h]
  iterate 2 exact ⟨rfl, .inr rfl, .inl rfl⟩
  exact ⟨rfl, .inl rfl, .inl rfl⟩

/-- A robot whose record is removed fits again, where its place is known (R75). -/
theorem leaveRobot_fits {t : Transfer} {x : Robot}
    (place : ∀ r, x.mode ≠ .absent → (x.location = .rowEnd r ∨ x.location = .onRow r) → (e.row r).present = true) :
    RobotFits e (t.leaveRobot s x) := by
  obtain ⟨transfer, location, mode⟩ := leaveRobot_spec t s x
  refine ⟨fun _ => transfer, fun r hm hl => place r ?_ ?_⟩
  · obtain h | ⟨h, -⟩ := mode
    · exact h ▸ hm
    · simp [h]
  · obtain h | h := location
    · exact h ▸ hl
    · simp [h] at hl

theorem releaseDest_quiet (b : Block) (t : Transfer) : Quiet b (b.releaseDest t) := by
  unfold Block.releaseDest
  split
  · exact .modRow ⟨rfl, rfl⟩
  · exact .refl b

theorem releaseDest_robot (b : Block) (t : Transfer) (j : RobotId) : (b.releaseDest t).robot j = b.robot j := by
  unfold Block.releaseDest
  split <;> rfl

theorem removeRecord_shuttle (b : Block) (s : ShuttleId) (t : Transfer) (u : ShuttleId) :
    (b.removeRecord s t).shuttle u =
      if s = u then
        { b.shuttle s with
          queue := (b.shuttle s).queue.filter fun z => z.tag != t.tag
          current := if (b.shuttle s).current = some t.tag then none else (b.shuttle s).current }
      else b.shuttle u := by
  unfold Block.removeRecord
  dsimp only
  rw [Block.modRobot_shuttle, (releaseDest_quiet _ t).shuttle]
  obtain rfl | hu := eq_or_ne s u
  · split <;> simp_all
  · split <;> simp [hu]

theorem removeRecord_robot (b : Block) (s : ShuttleId) (t : Transfer) (j : RobotId) :
    (b.removeRecord s t).robot j = if t.robot = j then t.leaveRobot s (b.robot t.robot) else b.robot j := by
  unfold Block.removeRecord
  dsimp only
  simp only [Block.robot_modRobot, releaseDest_robot]
  split <;> split <;> simp

theorem removeRecord_row (b : Block) (s : ShuttleId) (t : Transfer) (r : RowId) :
    ((b.removeRecord s t).row r).SameClaim (b.row r) := by
  unfold Block.removeRecord
  dsimp only
  rw [Block.modRobot_row]
  refine ⟨((releaseDest_quiet _ t).rows r).1.trans ?_, ((releaseDest_quiet _ t).rows r).2.trans ?_⟩ <;> split <;> rfl

theorem ListsKept.removeRecord (b : Block) (s : ShuttleId) (t : Transfer) : ListsKept b (b.removeRecord s t) := by
  have quiet (d : Block) : ListsKept d (d.releaseDest t) := (Quiet.keeps (e := Env.fresh) (releaseDest_quiet d t)).lists
  unfold Block.removeRecord
  dsimp only
  refine ListsKept.trans ?_ ((quiet _).trans (.modRobot _ _ _))
  have first (current : Shuttle → Option Tag) : ListsKept b (b.modShuttle s fun x =>
      { x with queue := x.queue.filter fun z => z.tag != t.tag, current := current x }) :=
    .modShuttle (fun hd => ⟨hd, id⟩) (List.filter_sublist.map _).subperm
  split
  · exact (first fun _ => none).trans (.cancel _ _)
  · exact first fun x => x.current

/-- The removal of a record (R77), also where only its own robot has lost its place. -/
theorem Claims.removeRecord {t : Transfer} (holds : Holds e b) (queued : Queued e b)
    (robots : ∀ j, j ≠ t.robot → RobotFits e (b.robot j)) (ht : t ∈ (b.shuttle s).queue)
    (place : ∀ r, (b.robot t.robot).mode ≠ .absent →
      ((b.robot t.robot).location = .rowEnd r ∨ (b.robot t.robot).location = .onRow r) → (e.row r).present = true) :
    Claims e (b.removeRecord s t) := by
  have robotOf : (b.removeRecord s t).robot t.robot = t.leaveRobot s (b.robot t.robot) := by
    rw [removeRecord_robot, if_pos rfl]
  obtain ⟨transfer, location, -⟩ := leaveRobot_spec t s (b.robot t.robot)
  have shuttleOf := removeRecord_shuttle b s t s
  rw [if_pos rfl] at shuttleOf
  refine .remove (s := s) holds queued robots ht (robotOf ▸ leaveRobot_fits place) (robotOf ▸ transfer) (fun r hl => ?_)
    (by rw [shuttleOf]) (fun y hy hne => ?_) (fun j hj => ?_) (fun u hu => ?_) (removeRecord_row b s t)
  · rw [robotOf] at hl
    obtain h | h := location
    · exact holds.off_surface (holds.free_of_transfer (queued.robot_of_record ht)) r (h ▸ hl)
    · simp [h] at hl
  · have hf := queued.fits s y hy
    rw [shuttleOf]
    refine ⟨hf.source, hf.dest, fun hs => ?_, hf.running⟩
    have hcur := hf.current hs
    simp [hcur, hne]
  · rw [removeRecord_robot, if_neg (Ne.symm hj)]
  · rw [removeRecord_shuttle, if_neg (Ne.symm hu)]

theorem Keeps.removeRecord {t : Transfer} (ht : t ∈ (b.shuttle s).queue) : Keeps e b (b.removeRecord s t) :=
  ⟨.removeRecord b s t, fun hc =>
    .removeRecord hc.holds hc.records.toQueued (fun j _ => hc.records.robots j) ht (hc.records.robots t.robot).place⟩

theorem Keeps.failParts {t : Transfer} (ht : t ∈ (b.shuttle s).queue) (why : FailReason) :
    Keeps e b (b.failParts s t why) := (Keeps.removeRecord ht).trans (Quiet.setOutcome _ _ _).keeps

/-- A failed transfer, its parts taken, goes to its owner (R75, part 5). -/
theorem failTransfer_quiet (b : Block) (s : ShuttleId) (t : Transfer) (why : FailReason) :
    Quiet (b.failParts s t why) (b.failTransfer s t why).1 := Quiet.failHandOn _ t why

theorem Keeps.failTransfer {t : Transfer} (ht : t ∈ (b.shuttle s).queue) (why : FailReason) :
    Keeps e b (b.failTransfer s t why).1 := (Keeps.failParts ht why).trans (failTransfer_quiet b s t why).keeps

theorem record_some {x : Shuttle} {g : Tag} {t : Transfer} (h : x.record g = some t) : t ∈ x.queue ∧ t.tag = g :=
  ⟨List.mem_of_find?_eq_some h, by simpa using List.find?_some h⟩

theorem record_none {x : Shuttle} {g : Tag} (h : x.record g = none) : ∀ t ∈ x.queue, t.tag ≠ g := fun t ht => by
  simpa using List.find?_eq_none.mp h t ht

theorem recordOf_some {g : Tag} {t : Transfer} (h : b.recordOf g = some (s, t)) : t ∈ (b.shuttle s).queue ∧ t.tag = g := by
  obtain ⟨u, -, hu⟩ := List.exists_of_findSome?_eq_some h
  obtain ⟨z, hz, he⟩ := Option.map_eq_some_iff.mp hu
  cases he
  exact record_some hz

theorem Keeps.failQueued (b : Block) (s : ShuttleId) (g : Tag) (why : FailReason) : Keeps e b (b.failQueued s g why).1 := by
  unfold Block.failQueued
  split
  · next t h =>
    split
    · exact .failTransfer (record_some h).1 why
    · exact .refl b
  · exact .refl b

theorem Keeps.removeQueued (b : Block) (k : RobotId) : Keeps e b (b.removeQueued k).1 := by
  unfold Block.removeQueued
  split
  · next s t h =>
    obtain ⟨g, -, hg⟩ := Option.bind_eq_some_iff.mp h
    split
    · exact .removeRecord (recordOf_some hg).1
    · exact .refl b
  · exact .refl b

/-! ## Shuttles taken down and made LOCAL -/

theorem faultShuttle_shuttle (b : Block) (s : ShuttleId) (why : ShuttleCause) (u : ShuttleId) :
    (b.faultShuttle s why).shuttle u =
      if s = u then { b.shuttle s with mode := .faulted, cause := some why, pollDue := none } else b.shuttle u := by
  simp [Block.faultShuttle]

theorem ListsKept.faultShuttle (b : Block) (s : ShuttleId) (why : ShuttleCause) : ListsKept b (b.faultShuttle s why) :=
  .takeDown rfl rfl

/-- No record of the queue is dispatched and running. -/
def Shuttle.Still (x : Shuttle) : Prop := ∀ t ∈ x.queue, ∀ y, t.step ≠ .running y

/-- A shuttle that is neither MOVING nor DOCKING has no running record (R64). -/
theorem Claims.still (h : Claims e b) (mode : (b.shuttle s).mode ≠ .moving ∧ (b.shuttle s).mode ≠ .docking) :
    (b.shuttle s).Still := fun t ht y hy => ((h.records.fits s t ht).running y hy).elim mode.1 mode.2

/-- A shuttle whose current transfer has no record has no running one. -/
theorem Claims.still_of_current (h : Claims e b) (current : (b.shuttle s).current.bind (b.shuttle s).record = none) :
    (b.shuttle s).Still := fun t ht y hy => by
  have hcur := (h.records.fits s t ht).current (by simp [hy])
  rw [hcur, Option.bind_some] at current
  exact record_none current t ht rfl

/-- A change of a shuttle with no running record that leaves its queue and current transfer. -/
theorem Claims.modShuttle {g : Shuttle → Shuttle} (h : Claims e b) (still : (b.shuttle s).Still)
    (queue : (g (b.shuttle s)).queue = (b.shuttle s).queue) (current : (g (b.shuttle s)).current = (b.shuttle s).current) :
    Claims e (b.modShuttle s g) := by
  have shuttleOf : (b.modShuttle s g).shuttle s = g (b.shuttle s) := by simp
  refine h.shuttle (s := s) (fun _ => .refl _) (fun _ => .refl _) (fun u hu => by simp [Ne.symm hu]) ?_ (fun t ht => ?_)
    (fun t ht => ?_) fun t ht => ?_
  · rw [shuttleOf]; simp only [Shuttle.tags, queue]; exact .refl _
  · rw [shuttleOf, queue] at ht; exact ⟨t, ht, rfl, rfl⟩
  · rw [shuttleOf, queue]; exact ⟨t, ht, rfl, rfl⟩
  · rw [shuttleOf] at ht ⊢
    rw [queue] at ht
    have hf := h.records.fits s t ht
    exact ⟨hf.source, hf.dest, fun hs => current.trans (hf.current hs), fun y hy => absurd hy (still t ht y)⟩

/-- A shuttle with no running record becomes FAULTED (R64). -/
theorem Keeps.faultShuttle (why : ShuttleCause) (still : Claims e b → (b.shuttle s).Still) :
    Keeps e b (b.faultShuttle s why) :=
  ⟨.faultShuttle b s why, fun hc => (Keeps.withdrawLink _ s).claims (hc.modShuttle (still hc) rfl rfl)⟩

/-- A shuttle becomes FAULTED and its current transfer fails with it (R75, R76). -/
theorem Keeps.faultAndFail {t : Transfer} (cause : ShuttleCause) (why : FailReason) (ht : t ∈ (b.shuttle s).queue)
    (current : (b.shuttle s).current = some t.tag) : Keeps e b ((b.faultShuttle s cause).failTransfer s t why).1 := by
  refine Keeps.trans ?_ (failTransfer_quiet _ s t why).keeps
  refine Keeps.trans ?_ (Quiet.setOutcome _ _ _).keeps
  refine ⟨(ListsKept.faultShuttle b s cause).trans (.removeRecord _ s t), fun hc => ?_⟩
  have robotOf (j : RobotId) : (b.faultShuttle s cause).robot j = b.robot j := rfl
  have shuttleOf := removeRecord_shuttle (b.faultShuttle s cause) s t s
  rw [if_pos rfl, faultShuttle_shuttle, if_pos rfl] at shuttleOf
  obtain ⟨transfer, location, -⟩ := leaveRobot_spec t s (b.robot t.robot)
  have at' : ((b.faultShuttle s cause).removeRecord s t).robot t.robot = t.leaveRobot s (b.robot t.robot) := by
    rw [removeRecord_robot, if_pos rfl, robotOf]
  refine .remove (s := s) hc.holds hc.records.toQueued (fun j _ => hc.records.robots j) ht
    (at' ▸ leaveRobot_fits (hc.records.robots t.robot).place) (at' ▸ transfer) (fun r hl => ?_) (by rw [shuttleOf])
    (fun y hy hne => ?_) (fun j hj => ?_) (fun u hu => ?_) fun r => removeRecord_row (b.faultShuttle s cause) s t r
  · rw [at'] at hl
    obtain h | h := location
    · exact hc.holds.off_surface (hc.holds.free_of_transfer (hc.records.toQueued.robot_of_record ht)) r (h ▸ hl)
    · simp [h] at hl
  · have hf := hc.records.fits s y hy
    have waits : y.step = .queued := by
      by_contra hs
      have := hf.current hs
      rw [current] at this
      exact hne (Option.some_inj.mp this).symm
    exact ⟨hf.source, hf.dest, fun hs => absurd waits hs, fun x hx => by simp [waits] at hx⟩
  · rw [removeRecord_robot, if_neg (Ne.symm hj), robotOf]
  · rw [removeRecord_shuttle, if_neg (Ne.symm hu), faultShuttle_shuttle, if_neg (Ne.symm hu)]

theorem faultShuttle_record (b : Block) (s : ShuttleId) (why : ShuttleCause) (g : Tag) :
    ((b.faultShuttle s why).shuttle s).record g = (b.shuttle s).record g := by
  rw [faultShuttle_shuttle, if_pos rfl]; rfl

theorem Keeps.shuttleStepExpired (s : ShuttleId) (b : Block) : Keeps e b (shuttleStepExpired s b).1 := by
  unfold Machine.shuttleStepExpired
  dsimp only
  split
  · next g hg =>
    unfold Block.failTag
    rw [faultShuttle_record]
    split
    · next t ht =>
      obtain ⟨hmem, rfl⟩ := record_some ht
      exact .faultAndFail .timeout .shuttleTimeout hmem hg
    · next hn => exact .faultShuttle .timeout fun hc => hc.still_of_current (by rw [hg]; exact hn)
  · next hg => exact .faultShuttle .timeout fun hc => hc.still_of_current (by rw [hg]; rfl)

/-- A shuttle with no running record is made LOCAL (R64, R70, R86). -/
theorem Keeps.makeLocal (still : Claims e b → (b.shuttle s).Still) : Keeps e b (b.makeLocal s) := by
  unfold Block.makeLocal
  refine (Keeps.trans ⟨.modShuttle ?_ (.refl _), fun hc => hc.modShuttle (still hc) rfl rfl⟩ (.discardFlight _ s)).trans
    (.placeStatus ?_)
  · exact fun hd => by simp [Shuttle.Down] at hd
  · rw [Block.discardFlight_eq]
    show ¬ ((b.modShuttle s _).shuttle s).Down
    simp [Shuttle.Down]

theorem Keeps.takePoll (b : Block) (s : ShuttleId) : Keeps e b (b.takePoll s) := by
  unfold Block.takePoll
  split
  · next hp =>
    refine (Keeps.modShuttle ⟨rfl, rfl, rfl⟩ fun _ _ => rfl).then_placeLink (fun silent hd => ?_) _ _
    have := (silent s (by simpa [Shuttle.Down] using hd)).1
    simp [hp] at this
  · exact .refl b

end Sys2Proof.Machine
end

section
/-! PROOF. The hand-ons of an event keep the laws: offers of work, rounds, charges and the park plan (chapters 3, 4, 6, 10). -/

namespace Sys2Proof.Machine

open Sys2Proof

variable {e : Env} {b c : Block} {k : RobotId} {s : ShuttleId}

/-! ## Offers of work (R69) -/

theorem choice_some {x : Shuttle} {t : Transfer} (h : x.choice = some t) : t ∈ x.queue ∧ t.step = .queued := by
  unfold Shuttle.choice at h
  split at h
  · have := List.find?_some h
    simp only [Bool.and_eq_true, beq_iff_eq] at this
    exact ⟨List.mem_of_find?_eq_some h, this.1⟩
  · exact ⟨List.mem_of_find?_eq_some h, by simpa using List.find?_some h⟩

/-- A record moved to the head of its queue leaves it with no other record of its tag. -/
theorem toFront_subperm {t : Transfer} {q : List Transfer} (h : t ∈ q) :
    (t :: q.filter fun y => y.tag != t.tag).Subperm q := by
  have split := List.filter_append_perm (fun y : Transfer => y.tag != t.tag) q
  have single : [t].Subperm (q.filter fun y => !(y.tag != t.tag)) :=
    (List.singleton_sublist.mpr (List.mem_filter.mpr ⟨h, by simp⟩)).subperm
  exact ((List.perm_append_singleton t _).symm.subperm.trans ((List.subperm_append_left _).mpr single)).trans split.subperm

/-- The record chosen moves to the head of the queue and becomes the current transfer of a shuttle that had none (R69). -/
theorem Keeps.dispatch {t : Transfer} (ht : t ∈ (b.shuttle s).queue) (idle : (b.shuttle s).current = none) :
    Keeps e b (b.modShuttle s fun z =>
      { z with queue := t :: z.queue.filter (fun y => y.tag != t.tag), current := some t.tag }) := by
  have tags : (t.tag :: ((b.shuttle s).queue.filter fun y => y.tag != t.tag).map Transfer.tag).Subperm (b.shuttle s).tags := by
    obtain ⟨l, perm, sub⟩ := toFront_subperm ht
    exact ⟨l.map Transfer.tag, perm.map Transfer.tag, sub.map Transfer.tag⟩
  refine ⟨.modShuttle (fun hd => ⟨hd, id⟩) tags, fun hc => ?_⟩
  refine hc.shuttle (s := s) (fun _ => .refl _) (fun _ => .refl _) (fun u hu => by simp [Ne.symm hu]) (by simpa [Shuttle.tags] using tags)
    (fun y hy => ?_) (fun y hy => ?_) fun y hy => ?_
  · exact ⟨y, (toFront_subperm ht).subset (by simpa using hy), rfl, rfl⟩
  · by_cases hyt : y.tag = t.tag
    · obtain ⟨-, rfl⟩ := record_unique hc.records.tags ht hy hyt
      exact ⟨y, by simp, rfl, rfl⟩
    · exact ⟨y, by simp [hy, hyt], rfl, rfl⟩
  · have hmem : y ∈ (b.shuttle s).queue := (toFront_subperm ht).subset (by simpa using hy)
    have hf := hc.records.fits s y hmem
    have waits : y.step = .queued := by
      by_contra hs
      have := hf.current hs
      simp [idle] at this
    exact ⟨hf.source, hf.dest, fun hs => absurd waits hs, fun x hx => by simp [waits] at hx⟩

theorem Keeps.offerWork (s : ShuttleId) (b : Block) : Keeps e b (b.offerWork e s).1 := by
  unfold Block.offerWork
  dsimp only
  split
  · next hidle =>
    split
    · exact .refl b
    · next t ht =>
      split
      · exact .failTransfer (choice_some ht).1 .destLocked
      · exact (Keeps.dispatch (choice_some ht).1 hidle.2).trans (.startStep _ (by simp))
  · exact .refl b

/-! ## Rounds (R104 to R106) -/

theorem Keeps.startEntries (e : Env) (k : RobotId) (p : RowId) (n : Nat) (rd : Round) (b : Block) :
    Keeps e b (startEntries e k p n rd b).2.1 := by
  induction n generalizing rd b with
  | zero => exact .refl b
  | succ n ih =>
    have skipped (r : RowId) (rd : Round) : Keeps e b (Machine.startEntries e k p n rd (b.unreserve r)).2.1 :=
      (Quiet.unreserve b r).keeps.trans (ih _ _)
    unfold Machine.startEntries
    split
    · exact .refl b
    · split
      · exact skipped _ _
      · split
        · split
          · next hcheck => exact .claimRow hcheck
          · exact skipped _ _
        · split
          · next hask => exact .askTransfer hask
          · exact skipped _ _

theorem Keeps.handToRound (e : Env) (k : RobotId) (b : Block) : Keeps e b (handToRound e k b).2.1 := by
  unfold Machine.handToRound
  split
  · next p rd _ _ =>
    split
    · dsimp only
      have released : Quiet b ((rd.entries.filter fun x => x.state == .active && x.entered).foldl
          (fun c x => c.unreserve x.row) b) := Quiet.foldl (fun c (x : Entry) => Quiet.unreserve c x.row) _ b
      refine Keeps.trans ?_ (Quiet.finishRound _ k).keeps
      refine Keeps.trans ?_ (Quiet.modRobot ⟨rfl, rfl, rfl⟩).keeps
      split
      · exact released.keeps
      · split
        · exact released.keeps
        · exact released.keeps.trans (.startEntries e k p _ _ _)
    · exact .refl b
  · exact .refl b

/-! ## Charge (R56 to R58) -/

theorem Keeps.chargePlan (e : Env) (k : RobotId) (b : Block) : Keeps e b (chargePlan e k b).1 := by
  have wait (w : Bool) (d : Block) : Keeps e d (d.modRobot k fun x => { x with chargeWait := w }) :=
    (Quiet.modRobot ⟨rfl, rfl, rfl⟩).keeps
  unfold Machine.chargePlan
  split
  · exact .refl b
  · dsimp only
    split
    · exact wait _ b
    · split
      · exact wait _ b
      · split
        · exact wait _ b
        · split
          · next hask => exact (Keeps.askTransfer hask).trans (wait _ _)
          · exact wait _ b

theorem Keeps.chargeTop (e : Env) (k : RobotId) (b : Block) : Keeps e b (chargeTop e k b).1 := by
  unfold Machine.chargeTop
  split
  · exact (Quiet.modRobot ⟨rfl, rfl, rfl⟩).keeps
  · exact .chargePlan e k b

theorem Keeps.chargePop (e : Env) (k : RobotId) (b : Block) : Keeps e b (chargePop e k b).1 := by
  unfold Machine.chargePop
  split
  · exact (Quiet.modRobot ⟨rfl, rfl, rfl⟩).keeps
  · exact .refl b

theorem Keeps.chargePush (e : Env) (k : RobotId) (b : Block) : Keeps e b (chargePush e k b).1 := by
  unfold Machine.chargePush
  dsimp only
  split
  · cases (b.robot k).mode
    case idle =>
      cases (b.robot k).location
      case rowEnd => exact Keeps.trans (Quiet.modRobot ⟨rfl, rfl, rfl⟩).keeps (.chargePlan e k _)
      case unknown => exact (Quiet.modRobot ⟨rfl, rfl, rfl⟩).keeps
      all_goals exact .refl b
    case waitHold | onRow | waitTransfer | carried => exact (Quiet.modRobot ⟨rfl, rfl, rfl⟩).keeps
    all_goals exact .refl b
  · exact .refl b

theorem Keeps.chargeRetry (e : Env) (k : RobotId) (b : Block) : Keeps e b (chargeRetry e k b).1 := by
  unfold Machine.chargeRetry
  dsimp only
  split
  · split
    · split
      · exact .chargePlan e k b
      · exact .refl b
    · exact (Quiet.modRobot ⟨rfl, rfl, rfl⟩).keeps
  · exact .refl b

/-! ## Robots at rest and faulted (R44, R53 to R55) -/

theorem Keeps.comeToRest (e : Env) (k : RobotId) (b : Block) : Keeps e b (comeToRest e k b).1 := by
  unfold Machine.comeToRest
  dsimp only
  split
  · exact .refl b
  · dsimp only
    split
    · exact (Quiet.modRobot ⟨rfl, rfl, rfl⟩).keeps
    · exact .refl b

theorem giveTop_fst (k : RobotId) (b : Block) : (giveTop k b).1 = b := by
  unfold giveTop
  dsimp only
  split <;> rfl

/-- A change of a robot's state alone, in which it fits its row and its transfer. -/
theorem Keeps.remode {g : Robot → Robot} (place : (g (b.robot k)).location = (b.robot k).location)
    (transfer : (g (b.robot k)).transfer = (b.robot k).transfer)
    (holder : Claims e b → ∀ r, (b.row r).holder = some k → HolderFits e r (b.row r) (b.robot k) →
      HolderFits e r (b.row r) (g (b.robot k)))
    (fits : Claims e b → RobotFits e (g (b.robot k))) : Keeps e b (b.modRobot k g) := by
  have at' : (b.modRobot k g).robot k = g (b.robot k) := by simp
  refine ⟨.modRobot b k g, fun hc => ⟨hc.holds.remode (k := k) (by rw [at', place]) (fun r hk hf => ?_)
    (fun j hj => by simp [Ne.symm hj]) fun _ => .refl _, hc.records.toQueued.robot (k := k) (by rw [at', transfer])
      (fun u tag hl ht => hc.records.aboard k u tag ?_ ht) (fun j hj => by simp [Ne.symm hj]) fun _ => .refl _,
    RobotFits.all (k := k) (fun j _ => hc.records.robots j) ?_ fun j hj => by simp [Ne.symm hj]⟩⟩
  · rw [at']; exact holder hc r hk hf
  · rw [at', place] at hl; exact hl
  · rw [at']; exact fits hc

/-- A fault of a robot that is neither braced, absent nor FAULTED (R53). -/
theorem Keeps.faultReport (k : RobotId) (b : Block) : Keeps e b (faultReport k b).1 := by
  unfold Machine.faultReport
  split
  iterate 2 exact .refl b
  · exact (Quiet.modRobot ⟨rfl, rfl, rfl⟩).keeps
  all_goals
    next hm =>
    refine Keeps.trans ?_ ((Quiet.discardRound _ k).keeps.trans (.removeQueued _ k))
    refine .remode rfl rfl (fun hc r hk hf => ⟨hf.present, hf.transfer, fun hp => ⟨(hf.waits hp).1, .inr rfl⟩,
      fun hp => ?_, fun hs => ?_⟩) fun hc => ⟨fun hu => ?_, fun r _ hl => ?_⟩
    · obtain ⟨location, -, trackers⟩ := hf.rides hp
      exact ⟨location, .inr (.inr rfl), trackers⟩
    · have := hf.stowed hs
      simp [hm] at this
    · have hu : (b.robot k).location = .unknown := by simpa using hu
      exact (hc.records.robots k).untasked (by simp [hu])
    · exact (hc.records.robots k).place r (by simp [hm]) hl

/-- The state in which a robot leaves FAULTED fits its place, its hold and its transfer (R55). -/
theorem Keeps.recover (h : (b.robot k).mode = .faulted) :
    Keeps e b (b.modRobot k fun x => { x with mode := b.recoveredMode k }) := by
  have pending : (allRows.any fun r => (b.row r).holder == some k && (b.row r).tracker == .holdPending) = true ↔
      ∃ r, (b.row r).holder = some k ∧ (b.row r).tracker = .holdPending := by simp [allRows]
  refine .remode rfl rfl (fun hc r hk hf => ?_) fun hc => ⟨fun hu => ?_, fun r _ hl => ?_⟩
  · have unstowed : ¬ ((b.row r).tracker = .stowReleased ∨ (b.row r).tracker = .stowed) := fun hs => by
      have := hf.stowed hs
      simp [h] at this
    refine ⟨hf.present, hf.transfer, fun hp => ⟨(hf.waits hp).1, .inl ?_⟩, fun hp => ?_, fun hs => absurd hs unstowed⟩
    · simp only [Block.recoveredMode, (hf.waits hp).1]
      exact if_pos (pending.mpr ⟨r, hk, hp⟩)
    · obtain ⟨location, -, trackers⟩ := hf.rides hp
      exact ⟨location, .inl (by simp [Block.recoveredMode, location]), trackers⟩
  · by_contra ht
    have free := hc.holds.free_of_transfer ht
    have off := hc.holds.off_surface free
    have unpending : ¬ ∃ r, (b.row r).holder = some k ∧ (b.row r).tracker = .holdPending := fun ⟨r, hr, _⟩ => free r hr
    have known : (b.robot k).location ≠ .unknown := fun hl => ht ((hc.records.robots k).untasked (by simp [hl]))
    have mode : b.recoveredMode k = .waitTransfer ∨ b.recoveredMode k = .carried := by
      unfold Block.recoveredMode
      dsimp only
      rw [if_neg (mt pending.mp unpending), if_pos (Option.isSome_iff_ne_none.mpr ht), if_neg (mt pending.mp unpending)]
      cases hl : (b.robot k).location with
      | onRow r => exact absurd hl (off r)
      | carried u => exact .inr rfl
      | _ => exact .inl rfl
    obtain hm | hm := mode <;> simp [hm, known] at hu
  · exact (hc.records.robots k).place r (by simp [h]) hl

theorem Keeps.clearReport (k : RobotId) (b : Block) : Keeps e b (clearReport k b).1 := by
  unfold Machine.clearReport
  split
  · next hm => exact .recover hm
  · exact (Quiet.modRobot ⟨rfl, rfl, rfl⟩).keeps
  all_goals exact .refl b

/-! ## The park plan and the storm's entries (chapter 10) -/

theorem Keeps.seekPlace (e : Env) (k : RobotId) (p : Option RowId) (via : Option ShuttleId) (garage : Bool) (b : Block) :
    Keeps e b (seekPlace e k p via garage b).1 := by
  have noPlace : Keeps e b (b.noPlace k) := (Quiet.noPlace b k).keeps
  unfold Machine.seekPlace
  split
  · exact noPlace
  · split
    · exact noPlace
    · extract_lets place
      cases place
      · exact noPlace
      · dsimp only
        split
        · next hask => exact (Keeps.askTransfer hask).trans (Quiet.modRobot ⟨rfl, rfl, rfl⟩).keeps
        · exact (Quiet.modRobot ⟨rfl, rfl, rfl⟩).keeps
        · exact noPlace

theorem Keeps.planRobot (e : Env) (k : RobotId) (b : Block) : Keeps e b (planRobot e k b).1 := by
  have strandLate (late : Bool) (r : RowId) : Quiet b (if late = true then b.modRow r RowState.strand else b) := by
    split
    · exact .strand b r
    · exact .refl b
  unfold Machine.planRobot
  extract_lets x late
  split
  · exact .refl b
  · split
    · exact (Quiet.modRobot ⟨rfl, rfl, rfl⟩).keeps
    · split
      · exact ((Quiet.stand b k .safe).trans (.modRobot ⟨rfl, rfl, rfl⟩)).keeps
      · split
        · exact .refl b
        · generalize x.mode = mode
          generalize x.location = location
          cases mode
          case waitHold => exact .refl b
          case idle =>
            cases location
            case rowEnd r =>
              dsimp only
              split
              · exact (Quiet.orderBrace b k).keeps
              · exact .seekPlace e k _ _ true b
            case carried u => exact .seekPlace e k _ _ true b
            case unknown => exact (Quiet.stand b k .unparked).keeps
            all_goals exact .refl b
          case onRow =>
            cases location
            case onRow r =>
              dsimp only
              split
              · exact ((strandLate late r).trans (.orderBrace _ k)).keeps
              · exact ((strandLate late r).trans (.setOrder _ k .exit)).keeps
            case carried u => exact .seekPlace e k _ _ true b
            all_goals exact .refl b
          case faulted =>
            cases location
            case onRow r => exact (strandLate late r).keeps
            case carried u => exact .seekPlace e k _ _ true b
            all_goals exact .refl b
          all_goals
            cases location
            case carried u => exact .seekPlace e k _ _ true b
            all_goals exact .refl b

theorem Keeps.deadlineRobot (e : Env) (k : RobotId) (b : Block) : Keeps e b (deadlineRobot e k b).1 := by
  unfold Machine.deadlineRobot
  dsimp only
  split
  · exact .refl b
  · split
    · next u t h =>
      obtain ⟨g, -, hg⟩ := Option.bind_eq_some_iff.mp h
      split
      · refine (Keeps.failParts (recordOf_some hg).1 .storm).trans ?_
        split
        · exact ((Quiet.settleFailed _ k t.dest .storm).trans (.deadlinePlace _ k)).keeps
        · exact (Quiet.deadlinePlace _ k).keeps
      · exact .refl b
    · exact (Quiet.deadlinePlace b k).keeps

theorem Keeps.calmRobot (k : RobotId) (b : Block) : Keeps e b (calmRobot k b).1 := by
  unfold Machine.calmRobot
  dsimp only
  split
  · exact (Quiet.modRobot ⟨rfl, rfl, rfl⟩).keeps
  · exact .refl b

theorem Keeps.recoverTest (e' : Env) (b : Block) : Keeps e b (recoverTest e' b).1 := by
  unfold Machine.recoverTest
  split
  · exact (Quiet.setWeather b .calm).keeps
  · exact .refl b

theorem Keeps.enterPark (e : Env) (b : Block) : Keeps e b (b.enterPark e).1 :=
  (Keeps.arm e .parkDeadline e.params.parkDeadline b).trans (.of_eq rfl rfl rfl rfl rfl)

theorem Keeps.handLevel (e : Env) (l : Level) (filled : Bool) (b : Block) : Keeps e b (handLevel e l filled b).1 := by
  have levelled : Quiet b { b with level := l } := .of_eq rfl rfl rfl rfl rfl
  unfold Machine.handLevel
  extract_lets b0 b1
  have first : Keeps e b b1 := by
    show Keeps e b (if l = .none then b0 else b0.cancel .calmHoldoff)
    split
    · exact levelled.keeps
    · exact levelled.keeps.trans (.cancel _ _)
  clear_value b1
  refine first.trans ?_
  split
  · split
    · exact .refl b1
    · exact (Quiet.setWeather b1 .watch).keeps
    · exact (Quiet.setWeather b1 .park).keeps.trans (.enterPark e _)
    · split
      next b3 h heq =>
      rw [show b3 = _ from (congrArg Prod.fst heq).symm]
      refine (Quiet.setWeather b1 .stow).keeps.trans ?_
      split
      · exact .refl _
      · exact .enterPark e _
  · split
    · split
      · exact (Quiet.setWeather b1 .calm).keeps
      · exact .refl b1
    · dsimp only
      split
      · exact (Quiet.setWeather b1 .watch).keeps
      · exact .refl b1
    iterate 3
      dsimp only
      split
      · exact .refl b1
      · exact .arm e _ _ b1
    · exact .refl b1
    · exact .refl b1

theorem Keeps.enterRecover (e' : Env) (b : Block) : Keeps e b (b.enterRecover e').1 := by
  unfold Block.enterRecover
  dsimp only
  refine Keeps.trans ?_ (Quiet.mapRobots fun _ => ⟨rfl, rfl, rfl⟩).keeps
  refine Keeps.trans ((Quiet.setWeather b .recover).trans (.of_eq rfl rfl rfl rfl rfl)).keeps ?_
  refine (Keeps.cancel _ .parkDeadline).trans (.track (.of_eq rfl rfl rfl) (fun _ => rfl) (fun _ => rfl) (fun r => ?_) fun r => ?_)
  · rw [Block.row_mapRows]
    split <;> exact (RowState.toResume_holder _).trans (RowState.toUnstow_holder _)
  · rw [Block.row_mapRows]
    obtain h | ⟨h1, h2⟩ := toUnstow_toResume_fits (e := e) (r := r) (b.row r) b.robot
    · exact .inl (by split <;> exact h)
    · refine .inr ⟨by split <;> exact h1, fun k hk hf => ?_⟩
      split
      · exact (h2 k hk hf).congr rfl (.refl _)
      · exact h2 k hk hf

theorem Keeps.calmHoldoffExpired (e' : Env) (b : Block) : Keeps e b (calmHoldoffExpired e' b).1 := by
  unfold Machine.calmHoldoffExpired
  split
  · exact (Quiet.setWeather b .calm).keeps
  iterate 2 exact .enterRecover e' b
  all_goals exact .refl b

theorem Keeps.parkDeadlineExpired (b : Block) : Keeps e b (parkDeadlineExpired b).1 :=
  .of_eq rfl rfl rfl rfl rfl

/-! ## Every hand-on, and the cascade -/

theorem handle_keeps (e : Env) (t : HandOn) (b : Block) : Keeps e b (handle e t b).1 := by
  cases t with
  | rest k => exact .comeToRest e k b
  | giveTop k => exact (congrArg (Keeps e b) (giveTop_fst k b)).mpr (.refl b)
  | chargeTop k => exact .chargeTop e k b
  | chargePush k => exact .chargePush e k b
  | chargePop k => exact .chargePop e k b
  | chargeRetry k => exact .chargeRetry e k b
  | handRound k => exact .handToRound e k b
  | planRobot k => exact .planRobot e k b
  | offer s => exact .offerWork s b
  | failRecord s g why => exact .failQueued b s g why
  | pushParks => exact (Quiet.pushParks b).keeps
  | releaseRows => exact .releaseAll e b
  | assertStowd => exact .of_eq rfl rfl rfl rfl rfl
  | strandRows => exact (Quiet.strandHeld b).keeps
  | deadlineRobot k => exact .deadlineRobot e k b
  | clearParkWaits => exact (Quiet.clearParkWaits b).keeps
  | calmRobot k => exact .calmRobot k b
  | recoverTest => exact .recoverTest e b
  | wantPlan k => exact .refl b
  | pass => exact .refl b
  | wantPass => exact .refl b
  | holdOffers s => exact .refl b
  | releaseOffers => exact .refl b

theorem cascade_keeps_laws {n : Nat} {hold : Option ShuttleId} {due : Due} {ts : List HandOn} {d : Block} (h : Keeps e b c)
    (hc : cascade e n hold due ts c = some d) : Keeps e b d :=
  cascade_keeps (P := Keeps e b) e (fun t x hx => hx.trans (handle_keeps e t x)) n hold due ts c d hc h

/-- What an event's own effect keeps, its hand-ons keep. -/
theorem Keeps.finish {x : Handed} (h : Keeps e b x.1) (hf : Handed.finish e x = some c) : Keeps e b c :=
  cascade_keeps_laws h hf

end Sys2Proof.Machine
end

section
/-! PROOF. The link's completions keep the laws (chapters 4 and 5): steps, DONEs, the reconciliation and the first status. -/

namespace Sys2Proof.Machine

open Sys2Proof

variable {e : Env} {a b c : Block} {k : RobotId} {s : ShuttleId} {t : Transfer}

/-! ## Steps that complete (R72) and the DONE of a transfer (R73) -/

/-- A robot on a shuttle, in the state CARRIED or FAULTED, fits whatever its transfer is. -/
theorem RobotFits.carried {z : Robot} (mode : z.mode = .carried ∨ z.mode = .faulted) (location : z.location = .carried s) :
    RobotFits e z :=
  ⟨fun hu => by obtain h | h := mode <;> simp [h, location] at hu, fun r _ hl => by simp [location] at hl⟩

/-- The LOADING completion (R72). -/
theorem Keeps.boarded (ht : t ∈ (b.shuttle s).queue) : Keeps e b (b.boarded s t) := by
  have robotOf (j : RobotId) : (b.boarded s t).robot j = if t.robot = j then
      { b.robot t.robot with mode := keepFaulted (b.robot t.robot) .carried, location := .carried s, inGarage := false }
      else b.robot j := by
    unfold Block.boarded
    dsimp only
    split <;> simp
  have shuttleOf (u : ShuttleId) : (b.boarded s t).shuttle u =
      if s = u then { b.shuttle s with load := some t.robot } else b.shuttle u := by
    unfold Block.boarded
    dsimp only
    split <;> simp
  have rowOf (r : RowId) : ((b.boarded s t).row r).SameClaim (b.row r) := by
    unfold Block.boarded
    dsimp only
    split
    · rw [Block.modShuttle_row, Block.row_modRow]
      split
      · next h => subst h; exact ⟨rfl, rfl⟩
      · rfl
    · rfl
  refine ⟨?_, fun hc => ?_⟩
  · unfold Block.boarded
    dsimp only
    refine ListsKept.trans ?_ (.modShuttle_quiet fun _ => ⟨rfl, rfl, rfl⟩)
    split
    · exact (ListsKept.modRobot b _ _).trans (.modRow _ _ _)
    · exact .modRobot b _ _
  · have named := hc.records.named s t ht
    refine hc.robot (k := t.robot) (hc.holds.free_of_transfer (hc.records.toQueued.robot_of_record ht)) ?_ (fun r => ?_) ?_
      (fun u tag hl htag => ?_) (fun j hj => by rw [robotOf, if_neg (Ne.symm hj)]) rowOf fun u => ?_
    · rw [robotOf, if_pos rfl]
      exact .carried (keepFaulted_or _ _) rfl
    · simp [robotOf]
    · simp [robotOf]
    · obtain rfl : s = u := by simpa [robotOf] using hl
      exact ⟨t, ht, by simpa [named] using htag, rfl⟩
    · rw [shuttleOf]
      split
      · next h => subst h; exact ⟨rfl, rfl, rfl⟩
      · rfl

theorem boarded_current (b : Block) (s : ShuttleId) (t : Transfer) :
    ((b.boarded s t).shuttle s).current = (b.shuttle s).current := by
  unfold Block.boarded
  dsimp only
  split <;> simp

/-- Parts 1 to 3 of R73, for the shuttle's current transfer. -/
theorem Keeps.doneParts (ht : t ∈ (b.shuttle s).queue) (current : (b.shuttle s).current = some t.tag) :
    Keeps e b (b.doneParts s t) := by
  have lists : ListsKept b ((b.cancel (.shuttleStep s)).modShuttle s fun x =>
      { x with queue := x.queue.filter fun z => z.tag != t.tag, current := none, mode := .idle, commandSent := false }) :=
    (ListsKept.cancel b _).trans
      (.modShuttle (fun hd => by simp [Shuttle.Down] at hd) (List.filter_sublist.map _).subperm)
  have fits (hc : Claims e b) {x : Shuttle} : ∀ y ∈ (b.shuttle s).queue, y.tag ≠ t.tag → RecordFits e x y := by
    intro y hy hne
    have hf := hc.records.fits s y hy
    have waits : y.step = .queued := by
      by_contra hs
      have := hf.current hs
      rw [current] at this
      exact hne (Option.some_inj.mp this).symm
    exact ⟨hf.source, hf.dest, fun hs => absurd waits hs, fun x hx => by simp [waits] at hx⟩
  unfold Block.doneParts
  dsimp only
  split
  · next d hd =>
    have emptied := lists.trans (.modShuttle_quiet (s := s) (g := fun x => { x with load := none }) fun _ => ⟨rfl, rfl, rfl⟩)
    refine ⟨(emptied.trans (.modRow _ _ _)).trans (.modRobot _ _ _), fun hc => ?_⟩
    have present : (e.row d).present = true := (hc.records.fits s t ht).dest d hd
    refine .remove (s := s) hc.holds hc.records.toQueued (fun j _ => hc.records.robots j) ht ?_ (by simp) (by simp) (by simp)
      (fits hc) (fun j hj => by simp [Ne.symm hj]) (fun u hu => by simp [Ne.symm hu]) fun r => ?_
    · refine .of_place (by simp) fun r hl => ?_
      obtain rfl : d = r := by simpa using hl
      exact present
    · rw [Block.modRobot_row, Block.row_modRow]
      split
      · next h => subst h; exact ⟨rfl, rfl⟩
      · rfl
  · refine ⟨lists.trans (.modRobot _ _ _), fun hc => ?_⟩
    have free := hc.holds.free_of_transfer (hc.records.toQueued.robot_of_record ht)
    refine .remove (s := s) hc.holds hc.records.toQueued (fun j _ => hc.records.robots j) ht ?_ (by simp) (fun r => ?_)
      (by simp) (fits hc) (fun j hj => by simp [Ne.symm hj]) (fun u hu => by simp [Ne.symm hu]) fun _ => .refl _
    · refine ⟨fun _ => by simp, fun r hm hl => ?_⟩
      exact (hc.records.robots t.robot).place r (by simpa using hm) (by simpa using hl)
    · simpa using hc.holds.off_surface free r

theorem Keeps.completeStep (x : RunStep) (ht : t ∈ (b.shuttle s).queue) (current : (b.shuttle s).current = some t.tag) :
    Keeps e b (b.completeStep e s t x).1 := by
  unfold Block.completeStep
  split
  · exact .startStep _ current
  · exact (Keeps.boarded ht).trans (.startStep _ ((boarded_current b s t).trans current))
  · split
    · exact .startStep _ current
    · exact .doneParts ht current
  · exact .doneParts ht current

theorem current_record (h : (b.shuttle s).current.bind (b.shuttle s).record = some t) :
    t ∈ (b.shuttle s).queue ∧ (b.shuttle s).current = some t.tag := by
  obtain ⟨g, hg, hr⟩ := Option.bind_eq_some_iff.mp h
  obtain ⟨ht, rfl⟩ := record_some hr
  exact ⟨ht, hg⟩

theorem Keeps.steppingStatus (counts : Bool) (st : Status) (b : Block) : Keeps e b (steppingStatus e s counts st b).1 := by
  unfold Machine.steppingStatus
  split
  · next hn =>
    dsimp only
    split
    · exact .faultShuttle .reported fun hc => hc.still_of_current hn
    · exact .refl b
  · next t ht =>
    obtain ⟨hmem, current⟩ := current_record ht
    split
    · exact .faultAndFail .reported .shuttleFault hmem current
    · split
      · split
        · exact .completeStep _ hmem current
        · exact .refl b
      all_goals exact .refl b

theorem Keeps.idleStatus (st : Status) (idle : (b.shuttle s).mode = .idle) : Keeps e b (idleStatus s st b).1 := by
  have still (hc : Claims e b) : (b.shuttle s).Still := hc.still (by simp [idle])
  unfold Machine.idleStatus
  split
  · exact .faultShuttle .reported still
  · split
    · exact .faultShuttle .loadUnknown still
    · exact .refl b

/-! ## The reconciliation (R93, R94) -/

theorem nearestRow_mem {p c : RowId} {l : List RowId} (h : nearestRow p l = some c) : c ∈ l := by
  induction l with
  | nil => cases h
  | cons x xs ih =>
    unfold nearestRow at h
    split at h
    · cases h; exact List.mem_cons_self
    · next d hd =>
      split at h
      · cases h; exact List.mem_cons_self
      · cases h; exact List.mem_cons_of_mem x (ih hd)

/-- A RECOVERY record goes to the former source or to a present row (R93). -/
theorem recoveryDest_some {st : Status} {d : RowId} (h : recoveryDest e b s t st = some d) :
    t.source = .rowEnd d ∨ (e.row d).present = true := by
  unfold recoveryDest at h
  extract_lets former at h
  rcases hr : former with _ | r <;> simp only [hr] at h
  · have := nearestRow_mem h
    simp only [cradleCandidates, List.mem_filter, Bool.and_eq_true] at this
    exact .inr this.2.1.1.1
  · obtain rfl : r = d := by simpa using h
    refine .inl ?_
    simp only [former] at hr
    split at hr
    · next r' hs =>
      split at hr
      · obtain rfl : r' = r := by simpa using hr
        exact hs
      · cases hr
    · cases hr

/-- The RECOVERY transfer of robot `k`, aboard shuttle `s`, to row `r` with tag `g` (R93). -/
def Block.placeRecovery (s : ShuttleId) (k : RobotId) (r : RowId) (g : Tag) (b : Block) : Block :=
  let z : Transfer := { tag := g, robot := k, source := .carried s, dest := .rowEnd r, origin := .recovery, step := .queued }
  ((b.modRow r fun x => { x with reservation := some g }).modRobot k fun x => { x with transfer := some g }).modShuttle s
    fun x => { x with queue := placeRecord z x.queue }

theorem Keeps.placeRecovery {r : RowId} {g : Tag} (h : Keeps e a b) (unused : b.freeTag = some g)
    (room : a.TransfersInRange → (b.shuttle s).queue.length < 8) (free : Claims e a → ∀ r, (b.row r).holder ≠ some k)
    (transfer : Claims e a → (b.robot k).transfer = none) (place : (b.robot k).location = .carried s)
    (mode : (b.robot k).mode = .carried ∨ (b.robot k).mode = .faulted)
    (present : Claims e a → (e.row r).present = true) : Keeps e a (b.placeRecovery s k r g) := by
  unfold Block.placeRecovery
  dsimp only
  refine ⟨((h.lists.trans (.modRow _ _ _)).trans (.modRobot _ _ _)).then_place (freeTag_unused unused) room, fun ha => ?_⟩
  refine (h.claims ha).place (s := s)
    (t := { tag := g, robot := k, source := .carried s, dest := .rowEnd r, origin := .recovery, step := .queued })
    (free ha) (by simp [place]) (freeTag_unused unused) (transfer ha) ?_ (by simp) (fun v hv => ?_) (by simp)
    (fun r hr => by cases hr) (fun r hr => ?_) rfl (by simp) (fun j hj => by simp [Ne.symm hj])
    (fun v hv => by simp [Ne.symm hv]) fun r' => ?_
  · exact .carried (s := s) (by simpa using mode) (by simp [place])
  · simpa [place, eq_comm] using hv
  · cases hr
    exact present ha
  · rw [Block.modShuttle_row, Block.modRobot_row, Block.row_modRow]
    split
    · next hr => subst hr; exact ⟨rfl, rfl⟩
    · rfl

/-- The loaded case of R93, on a block in which the record has failed. -/
theorem Keeps.reconcileLoaded {st : Status} (h : Keeps e a c) (room : a.TransfersInRange → (c.shuttle s).queue.length < 8)
    (free : Claims e a → ∀ r, (c.row r).holder ≠ some t.robot) (transfer : Claims e a → (c.robot t.robot).transfer = none)
    (source : Claims e a → ∀ r, t.source = .rowEnd r → (e.row r).present = true) :
    Keeps e a (c.reconcileLoaded e s t st).1 := by
  unfold Block.reconcileLoaded
  extract_lets k b1 b2
  have quiet : Quiet c b1 := by
    simp only [b1]
    split
    · exact .modRow ⟨rfl, rfl⟩
    · exact .refl c
  have robot1 (j : RobotId) : b1.robot j = c.robot j := by simp only [b1]; split <;> rfl
  have moved : b2.robot k = { c.robot k with
      mode := keepFaulted (c.robot k) .carried, location := .carried s, inGarage := st.garage } := by
    simp [b2, robot1]
  have others2 (j : RobotId) (hj : j ≠ k) : b2.robot j = c.robot j := by simp [b2, robot1, Ne.symm hj]
  have row2 (r : RowId) : (b2.row r).SameClaim (c.row r) := quiet.rows r
  have shuttle2 (u : ShuttleId) : (b2.shuttle u).SameWork (c.shuttle u) := by
    simp only [b2, Block.shuttle_modShuttle, Block.modRobot_shuttle, quiet.shuttle]
    split
    · next h => subst h; exact ⟨rfl, rfl, rfl⟩
    · rfl
  have fits2 : RobotFits e (b2.robot k) := moved ▸ .carried (keepFaulted_or _ _) rfl
  have main : Keeps e a b2 := by
    refine ⟨h.lists.trans (((Quiet.keeps (e := e) quiet).lists.trans (.modRobot _ _ _)).trans
      (.modShuttle_quiet fun _ => ⟨rfl, rfl, rfl⟩)), fun ha => ?_⟩
    exact (h.claims ha).robot (k := k) (free ha) fits2 (fun r => by simp [moved]) (by simp [moved])
      (fun u tag _ ht => by have := transfer ha; simp [k, this] at ht) others2 row2 shuttle2
  clear_value b2
  split
  · show Keeps e a (if t.origin.parkPriority && (c.storm || c.weather == .recover) then b2 else b2.setOrder k .attend)
    split
    · exact main
    · exact main.trans (Quiet.setOrder _ k .attend).keeps
  · split
    · next d u hd hu =>
      refine main.placeRecovery (s := s) (k := k) hu (fun ha => ?_) (fun ha r => ?_) (fun ha => ?_) (by simp [moved])
        (by simpa [moved] using keepFaulted_or _ _) fun ha => (recoveryDest_some hd).elim (source ha d) id
      · rw [(shuttle2 s).1]; exact room ha
      · rw [(row2 r).1]; exact free ha r
      · simpa [moved] using transfer ha
    · exact main.trans (Quiet.setOrder _ k .attend).keeps

/-- The empty case of R94, on a block in which the record has failed. -/
theorem Keeps.reconcileEmpty {x : RunStep} {st : Status} {before : Block} (h : Keeps e a c)
    (free : Claims e a → ∀ r, (c.row r).holder ≠ some t.robot) (transfer : Claims e a → (c.robot t.robot).transfer = none) :
    Keeps e a (reconcileEmpty e t x st before c) := by
  have moved {d : Block} (hd : Quiet c d) {g : Robot → Robot} (robots : d.robot t.robot = c.robot t.robot)
      (kept : (g (c.robot t.robot)).transfer = (c.robot t.robot).transfer)
      (off : ∀ r, (g (c.robot t.robot)).location = .onRow r → (c.robot t.robot).location = .onRow r)
      (place : Claims e c → ∀ r, (g (c.robot t.robot)).mode ≠ .absent →
        ((g (c.robot t.robot)).location = .rowEnd r ∨ (g (c.robot t.robot)).location = .onRow r) → (e.row r).present = true) :
      Keeps e a (d.modRobot t.robot g) := by
    refine ⟨(h.trans hd.keeps).lists.trans (.modRobot _ _ _), fun ha => ?_⟩
    have hc := h.claims ha
    have hdc := hd.keeps.claims hc
    refine hdc.robot (k := t.robot) (fun r => by rw [(hd.rows r).1]; exact free ha r) ?_ (fun r hl => ?_) ?_
      (fun u tag _ htag => ?_) (fun j hj => by simp [Ne.symm hj]) (fun _ => .refl _) fun _ => .refl _
    · refine ⟨fun _ => ?_, fun r => ?_⟩
      · simpa [robots, kept] using transfer ha
      · simpa [robots] using place hc r
    · refine hc.holds.off_surface (free ha) r (off r ?_)
      simpa [robots] using hl
    · simp [robots, kept]
    · rw [robots, transfer ha] at htag
      cases htag
  have fits (hc : Claims e c) := (hc.records.robots t.robot).place
  unfold Machine.reconcileEmpty
  dsimp only
  split
  iterate 2
    refine moved (.refl c) rfl rfl (fun _ => id) fun hc r hm hl => fits hc r ?_ hl
    intro ha
    simp [ha] at hm
  all_goals
    split
    · next hp =>
      simp only [Bool.and_eq_true] at hp
      refine moved (.modRow ⟨rfl, rfl⟩) rfl rfl (fun r hr => by simp at hr) fun _ r _ hl => ?_
      obtain rfl : st.row = r := by simpa using hl
      exact hp.1.2
    · exact moved (.refl c) rfl rfl (fun r hr => by simp at hr) fun _ r _ hl => by simp at hl

theorem doubted_some {x : RunStep} (h : (b.shuttle s).doubted = some (t, x)) :
    t ∈ (b.shuttle s).queue ∧ (b.shuttle s).current = some t.tag := by
  unfold Shuttle.doubted at h
  split at h
  · next t' ht =>
    split at h
    · cases h; exact current_record ht
    all_goals cases h
  · cases h

theorem failParts_shuttle (b : Block) (s : ShuttleId) (t : Transfer) (why : FailReason) (u : ShuttleId) :
    (b.failParts s t why).shuttle u = (b.removeRecord s t).shuttle u := rfl

/-- The reconciliation of the shuttle's transfer in doubt (R93, R94). -/
theorem Keeps.reconcile {x : RunStep} {st : Status} (ht : t ∈ (b.shuttle s).queue) :
    Keeps e b (reconcile e s t x st b).1 := by
  have failed : Keeps e b (b.failParts s t .link) := .failParts ht .link
  have free (hc : Claims e b) (r : RowId) : ((b.failParts s t .link).row r).holder ≠ some t.robot := by
    rw [show ((b.failParts s t .link).row r).holder = (b.row r).holder from (removeRecord_row b s t r).1]
    exact hc.holds.free_of_transfer (hc.records.toQueued.robot_of_record ht) r
  have transfer (_ : Claims e b) : ((b.failParts s t .link).robot t.robot).transfer = none := by
    simp [Block.failParts, Block.setOutcome, removeRecord_robot, (leaveRobot_spec t s _).1]
  unfold Machine.reconcile
  dsimp only
  split
  · refine .reconcileLoaded failed (fun hb => ?_) free transfer fun hc => (hc.records.fits s t ht).source
    rw [failParts_shuttle, removeRecord_shuttle, if_pos rfl]
    refine Nat.lt_of_lt_of_le (List.length_filter_lt_length_iff_exists.mpr ⟨t, ht, by simp⟩) (hb.1 s)
  · exact .reconcileEmpty failed free transfer

/-- The reconciliation leaves the shuttle with no current transfer. -/
theorem reconcile_current {x : RunStep} {st : Status} (current : (b.shuttle s).current = some t.tag) :
    (((reconcile e s t x st b).1).shuttle s).current = none := by
  have failed : ((b.failParts s t .link).shuttle s).current = none := by
    rw [failParts_shuttle, removeRecord_shuttle, if_pos rfl, if_pos current]
  have empty (c d : Block) (y : RunStep) (u : ShuttleId) : (reconcileEmpty e t y st c d).shuttle u = d.shuttle u := by
    unfold Machine.reconcileEmpty
    dsimp only
    split
    iterate 2 rfl
    all_goals split <;> rfl
  have loaded (d : Block) (hd : (d.shuttle s).current = none) : ((d.reconcileLoaded e s t st).1.shuttle s).current = none := by
    unfold Block.reconcileLoaded
    extract_lets k b1 b2
    have hb2 : (b2.shuttle s).current = none := by
      simp only [b2, Block.shuttle_modShuttle, if_true, Block.modRobot_shuttle]
      simp only [b1]
      split <;> exact hd
    clear_value b2
    split
    · show ((if t.origin.parkPriority && (d.storm || d.weather == .recover) then b2 else b2.setOrder k .attend).shuttle
        s).current = none
      split <;> exact hb2
    · split
      · simpa using hb2
      · exact hb2
  unfold Machine.reconcile
  dsimp only
  split
  · exact loaded _ failed
  · rw [empty]; exact failed

/-! ## The first status of a LOCAL shuttle (R78) -/

/-- A shuttle with no running record becomes IDLE, after a change that keeps the laws. -/
theorem Keeps.then_settle (h : Keeps e a b) (load : Option RobotId) (still : Claims e a → (b.shuttle s).Still) :
    Keeps e a (b.settleShuttle s load) :=
  ⟨h.lists.trans (.modShuttle (fun hd => by simp [Shuttle.Down] at hd) (.refl _)),
    fun ha => (h.claims ha).modShuttle (still ha) rfl rfl⟩

/-- Check 5 of R78 has found robot `k` lost while its record, with tag `g`, still stands QUEUED for shuttle `s`: but for the
robot's transfer the claim laws hold. The record's failure is the next hand-on. -/
structure Lost (e : Env) (s : ShuttleId) (g : Tag) (k : RobotId) (b : Block) : Prop where
  holds  : Holds e b
  queued : Queued e b
  robots : ∀ j, j ≠ k → RobotFits e (b.robot j)
  place  : (b.robot k).location = .unknown
  record : ∃ t ∈ (b.shuttle s).queue, t.tag = g ∧ t.robot = k ∧ t.step = .queued

theorem Lost.quiet {g : Tag} (h : Lost e s g k b) (hq : Quiet b c) : Lost e s g k c := by
  obtain ⟨holds, queued, robots, place, record⟩ := h
  exact ⟨holds.same hq.rows hq.robots, queued.same hq.robots fun u => by rw [hq.shuttle u],
    fun j hj => (robots j hj).congr (hq.robots j), (hq.robots k).2.1.trans place, by rw [hq.shuttle s]; exact record⟩

/-- The failure of the lost robot's record (R75, R78) brings the laws back. -/
theorem Lost.failQueued {g : Tag} (h : Lost e s g k b) (why : FailReason) : Claims e (b.failQueued s g why).1 := by
  obtain ⟨t, ht, rfl, rfl, step⟩ := h.record
  have found : (b.shuttle s).record t.tag = some t := by
    cases hr : (b.shuttle s).record t.tag with
    | none => exact absurd rfl (record_none hr t ht)
    | some y =>
      obtain ⟨hy, hyt⟩ := record_some hr
      rw [(record_unique h.queued.tags ht hy hyt).2]
  unfold Block.failQueued
  rw [found]
  dsimp only
  rw [if_pos step]
  refine (failTransfer_quiet b s t why).keeps.claims ((Quiet.setOutcome _ _ _).keeps.claims ?_)
  exact .removeRecord h.holds h.queued h.robots ht fun r _ hl => by simp [h.place] at hl

/-- An event's own effect keeps the laws, or leaves a lost robot's record to fail as its first hand-on. -/
def Mends (e : Env) (b : Block) (x : Handed) : Prop :=
  Keeps e b x.1 ∨ (ListsKept b x.1
    ∧ ∃ s g k why rest, x.2 = .failRecord s g why :: rest ∧ (Claims e b → Lost e s g k x.1))

/-- Either way the event keeps the laws in the end. -/
theorem Mends.finish {x : Handed} (h : Mends e b x) (hf : Handed.finish e x = some c) : Keeps e b c := by
  obtain h | ⟨lists, s, g, k, why, rest, hx, lost⟩ := h
  · exact h.finish hf
  · obtain ⟨n, hn⟩ : ∃ n, cascadeFuel = n + 1 := ⟨99999, rfl⟩
    unfold Handed.finish at hf
    rw [hn, hx] at hf
    have first : Keeps e b (handle e (.failRecord s g why) x.1).1 :=
      ⟨lists.trans (Keeps.failQueued (e := e) x.1 s g why).lists, fun hc => (lost hc).failQueued why⟩
    exact cascade_keeps_laws (ts := (handle e (.failRecord s g why) x.1).2 ++ rest) first hf

/-- A change after the event's own effect that no law reads, and hand-ons that come later. -/
theorem Mends.then_quiet {x : Handed} (h : Mends e b x) (hq : Quiet x.1 c) (later : List HandOn) :
    Mends e b (c, x.2 ++ later) := by
  obtain h | ⟨lists, s, g, k, why, rest, hx, lost⟩ := h
  · exact .inl (h.trans hq.keeps)
  · exact .inr ⟨lists.trans (hq.keeps (e := e)).lists, s, g, k, why, rest ++ later, by simp [hx],
      fun hc => (lost hc).quiet hq⟩

theorem Keeps.then_mends {x : Handed} (h : Keeps e a b) (hx : Mends e b x) : Mends e a x := by
  obtain hx | ⟨lists, s, g, k, why, rest, hx, lost⟩ := hx
  · exact .inl (h.trans hx)
  · exact .inr ⟨h.lists.trans lists, s, g, k, why, rest, hx, fun ha => lost (h.claims ha)⟩

theorem boardedFrom_some {r : RowId} (h : b.boardedFrom s k = some r) :
    (b.robot k).transfer = none ∧ b.heldRow k = none := by
  unfold Block.boardedFrom at h
  dsimp only at h
  split at h
  · split at h
    · next hp => exact ⟨hp.2.1, hp.2.2.1⟩
    · cases h
  all_goals cases h

/-- The checks of R78 of a status that reports a load. -/
theorem Keeps.firstStatusChecks {st : Status} (still : Claims e b → (b.shuttle s).Still) (load : st.load ≠ none) :
    Keeps e b (firstStatusChecks s st b).1 := by
  unfold Machine.firstStatusChecks
  split
  · exact .faultShuttle .reported still
  · split
    · next k _ =>
      split
      · exact (Keeps.refl b).then_settle _ still
      · split
        · next r hr =>
          obtain ⟨transfer, held⟩ := boardedFrom_some hr
          dsimp only
          refine Keeps.then_settle (Keeps.trans ⟨.modRobot _ _ _, fun hc => ?_⟩ (Quiet.modRow ⟨rfl, rfl⟩).keeps) _ still
          exact hc.robot (k := k) (heldRow_none held) (by simpa using .carried (s := s) (keepFaulted_or _ _) rfl) (by simp)
            (by simp) (fun u tag _ ht => by simp [transfer] at ht) (fun j hj => by simp [Ne.symm hj]) (fun _ => .refl _)
            fun _ => .refl _
        · exact (Keeps.faultShuttle .loadUnknown still).trans (.modShuttle ⟨rfl, rfl, rfl⟩ fun _ => id)
    · next hl => exact absurd hl load

/-- A robot found lost (R78, check 5). -/
def Block.loseRobot (k : RobotId) (b : Block) : Block :=
  b.modRobot k fun x => { x with location := .unknown, inGarage := false, mode := keepFaulted x .idle, order := .attend }

/-- The checks of R78, of a shuttle whose records are all QUEUED. -/
theorem firstStatusChecks_mends {st : Status} (waiting : Claims e b → ∀ t ∈ (b.shuttle s).queue, t.step = .queued) :
    Mends e b (firstStatusChecks s st b) := by
  have still (hc : Claims e b) : (b.shuttle s).Still := fun t ht y hy => by simp [waiting hc t ht] at hy
  have settled : Keeps e b (b.settleShuttle s none) := (Keeps.refl b).then_settle none still
  by_cases hload : st.load = none
  · unfold firstStatusChecks
    rw [hload]
    split
    · exact .inl (.faultShuttle .reported still)
    · dsimp only
      split
      · next k hk =>
        have place : (b.robot k).location = .carried s := by simpa using List.find?_some hk
        have lists : ListsKept b ((b.settleShuttle s none).loseRobot k) := settled.lists.trans (.modRobot _ k _)
        have free (hc : Claims e (b.settleShuttle s none)) (r : RowId) : ((b.settleShuttle s none).row r).holder ≠ some k :=
          hc.holds.free_of_place (fun r => by simp [Block.settleShuttle, place]) r
        have others (j : RobotId) (hj : j ≠ k) : ((b.settleShuttle s none).loseRobot k).robot j = b.robot j := by
          simp [Block.loseRobot, Block.settleShuttle, Ne.symm hj]
        have off (r : RowId) : (((b.settleShuttle s none).loseRobot k).robot k).location ≠ .onRow r := by
          simp [Block.loseRobot]
        show Mends e b ((b.settleShuttle s none).loseRobot k, _)
        cases hg : (b.robot k).transfer with
        | some g =>
          refine .inr ⟨lists, s, g, k, .lost, [], rfl, fun hc => ?_⟩
          have hs := settled.claims hc
          obtain ⟨t, ht, htag, hrobot⟩ := hc.records.aboard k s g place hg
          exact ⟨hs.holds.free (k := k) (free hs) off others fun _ => .refl _,
            hs.records.toQueued.robot (k := k) (by simp [Block.loseRobot]) (by simp [Block.loseRobot]) others
              fun _ => .refl _,
            fun j hj => others j hj ▸ hc.records.robots j, by simp [Block.loseRobot], t,
            by simpa [Block.loseRobot, Block.settleShuttle] using ht, htag, hrobot, waiting hc t ht⟩
        | none =>
          refine .inl ⟨lists, fun hc => ?_⟩
          refine (settled.claims hc).robot (k := k) (free (settled.claims hc)) ⟨fun _ => ?_, fun r _ hl => ?_⟩ off
            (by simp [Block.loseRobot]) (by simp [Block.loseRobot]) others (fun _ => .refl _) fun _ => .refl _
          · simpa [Block.loseRobot, Block.settleShuttle] using hg
          · simp [Block.loseRobot] at hl
      · exact .inl settled
  · exact .inl (.firstStatusChecks still hload)

/-- The first status of a LOCAL shuttle (R78, R93 to R95). -/
theorem firstStatus_mends (st : Status) (isLocal : (b.shuttle s).mode = .localUnknown) : Mends e b (firstStatus e s st b) := by
  unfold firstStatus
  split
  · next hd =>
    dsimp only
    refine (firstStatusChecks_mends fun hc t ht => ?_).then_quiet (.refl _) [.offer s]
    by_contra hs
    have current := (hc.records.fits s t ht).current hs
    have found : (b.shuttle s).current.bind (b.shuttle s).record = some t := by
      cases hr : (b.shuttle s).current.bind (b.shuttle s).record with
      | none =>
        rw [current, Option.bind_some] at hr
        exact absurd rfl (record_none hr t ht)
      | some y =>
        obtain ⟨hy, hcur⟩ := current_record hr
        rw [current] at hcur
        rw [(record_unique hc.records.tags ht hy (Option.some_inj.mp hcur).symm).2]
    unfold Shuttle.doubted at hd
    rw [found] at hd
    cases hstep : t.step with
    | queued => exact hs hstep
    | running y => exact hc.still (by simp [isLocal]) t ht y hstep
    | inDoubt y => simp [hstep] at hd
  · next t x hd =>
    obtain ⟨ht, current⟩ := doubted_some hd
    have first : Keeps e b (reconcile e s t x st b).1 := .reconcile ht
    have waiting (hc : Claims e (reconcile e s t x st b).1) :
        ∀ y ∈ ((reconcile e s t x st b).1.shuttle s).queue, y.step = .queued := by
      intro y hy
      by_contra hs
      have := (hc.records.fits s y hy).current hs
      rw [reconcile_current current] at this
      cases this
    have later := Quiet.reconcileHandOn (firstStatusChecks s st (reconcile e s t x st b).1).1 t
    dsimp only
    by_cases hload : st.load = none
    · have none : (reconcile e s t x st b).2 = [] := by simp [reconcile, hload]
      rw [none, List.nil_append, List.append_assoc]
      exact (first.then_mends (firstStatusChecks_mends waiting)).then_quiet later _
    · refine .inl ((first.trans (.firstStatusChecks (fun hc y hy z hz => ?_) hload)).trans later.keeps)
      simp [waiting hc y hy] at hz

end Sys2Proof.Machine
end

section
/-! PROOF. The rest of the block's own changes: completions, the contention fault, resumes and resets, enrolment. -/

namespace Sys2Proof.Machine

open Sys2Proof

variable {e : Env} {a b c : Block} {k : RobotId} {r : RowId} {s : ShuttleId}

/-! ## Completions (R71, R83, R86) -/

theorem Keeps.commandDone (e : Env) (s : ShuttleId) (b : Block) : Keeps e b (commandDone e s b) := by
  unfold Machine.commandDone
  split
  · exact .refl b
  · next up => exact .modShuttle ⟨rfl, rfl, rfl⟩ fun hd => absurd hd up

theorem statusDone_mends (e : Env) (s : ShuttleId) (counts : Bool) (d : StatusBytes) (b : Block) :
    Mends e b (statusDone e s counts d b) := by
  unfold statusDone
  generalize readStatus (b.shuttle s) d = st
  cases st with
  | none =>
    dsimp only
    split
    · exact .inl (.refl b)
    · next up => exact .inl (.modShuttle ⟨rfl, rfl, rfl⟩ fun hd => absurd hd up)
  | some v =>
    dsimp only
    have kept : Keeps e b (b.modShuttle s fun x => { x with lastFault := v.fault }) := .modShuttle ⟨rfl, rfl, rfl⟩ fun _ => id
    have mode0 : ((b.modShuttle s fun x => { x with lastFault := v.fault }).shuttle s).mode = (b.shuttle s).mode := by simp
    generalize b.modShuttle s _ = b0 at kept mode0 ⊢
    generalize (b.shuttle s).mode = mode at mode0 ⊢
    split
    · exact .inl kept
    · next up =>
      have polled : Keeps e b0 (b0.modShuttle s fun x => { x with pollDue := some e.params.pollInterval }) :=
        .modShuttle ⟨rfl, rfl, rfl⟩ fun hd => absurd (mode0 ▸ hd) up
      have mode1 : ((b0.modShuttle s fun x => { x with pollDue := some e.params.pollInterval }).shuttle s).mode = mode := by
        simpa using mode0
      generalize b0.modShuttle s _ = b1 at polled mode1 ⊢
      have placed : Keeps e b (b1.modShuttle s fun x => { x with position := some v.place }) :=
        (kept.trans polled).trans (.modShuttle ⟨rfl, rfl, rfl⟩ fun _ => id)
      have mode2 : ((b1.modShuttle s fun x => { x with position := some v.place }).shuttle s).mode = mode := by simpa using mode1
      generalize b1.modShuttle s _ = b2 at placed mode2 ⊢
      cases mode with
      | moving => exact .inl (placed.trans (.steppingStatus counts v b2))
      | docking => exact .inl (placed.trans (.steppingStatus counts v b2))
      | idle => exact .inl (placed.trans (.idleStatus v mode2))
      | localUnknown => exact placed.then_mends (firstStatus_mends v mode2)
      | offline => exact .inl placed
      | faulted => exact .inl placed

theorem completeTransaction_mends (e : Env) (d : StatusBytes) (b : Block) : Mends e b (completeTransaction e d b) := by
  unfold completeTransaction
  split
  · exact .inl (.refl b)
  · have landed : Keeps e b { b with link := { b.link with inFlight := none } } :=
      .of_lists (.of_link (fun h he => ⟨rfl, (h he).2⟩) fun _ _ h => h) (fun _ => .refl _) (fun _ => .refl _) fun _ => .refl _
    dsimp only
    split
    · exact .inl landed
    · split
      · exact landed.then_mends (statusDone_mends e _ _ d _)
      · exact .inl (landed.trans (.commandDone e _ _))

/-! ## The contention fault and the start of a transaction (R85, R88 to R92) -/

theorem doubt_spec (t : Transfer) :
    t.doubt.tag = t.tag ∧ t.doubt.robot = t.robot ∧ t.doubt.source = t.source ∧ t.doubt.dest = t.dest
      ∧ (t.doubt.step ≠ .queued → t.step ≠ .queued) ∧ ∀ x, t.doubt.step ≠ .running x := by
  unfold Transfer.doubt
  split
  · next h => simp [h]
  · next h => simp [h]
  · next h => simp [h]

theorem contention_queue (x : Shuttle) : x.contention.queue = x.queue.map Transfer.doubt := by
  unfold Shuttle.contention
  dsimp only
  split <;> rfl

theorem contention_current (x : Shuttle) : x.contention.current = x.current := by
  unfold Shuttle.contention
  dsimp only
  split <;> rfl

theorem latch_shuttle (b : Block) (u : ShuttleId) : b.latch.shuttle u = (b.shuttle u).contention := mapAll_get b.shuttles _ u

/-- The latch of the contention fault (R88 to R90). -/
theorem Keeps.latch (b : Block) : Keeps e b b.latch := by
  have tags (u : ShuttleId) : (b.latch.shuttle u).tags = (b.shuttle u).tags := by
    rw [latch_shuttle, Shuttle.tags, contention_queue, List.map_map]
    exact List.map_congr_left fun t _ => (doubt_spec t).1
  have queues (u : ShuttleId) : b.latch.link.queue[u] = none := by simp [Block.latch]
  refine ⟨⟨fun h => ?_, fun _ _ => ⟨rfl, queues⟩, fun h u hu => ⟨?_, queues u⟩, fun h => ⟨fun u => ?_, ?_⟩⟩, fun h => ?_⟩
  · exact (ListsKept.filterDeadlines b fun d => match d.kind with | .shuttleStep _ => false | _ => true).keys h
  · rw [latch_shuttle] at hu ⊢
    unfold Shuttle.contention at hu ⊢
    dsimp only at hu ⊢
    split at hu
    · next hm => rw [if_pos hm]; exact (h u (.inr hm)).1
    · simp at hu
  · rw [latch_shuttle, contention_queue, List.length_map]; exact h.1 u
  · exact usedTags_nodup_of_subperm (fun u => by rw [tags u]) h.2
  · refine ⟨h.holds.same (fun _ => .refl _) fun _ => .refl _, h.records.toQueued.shuttles (fun _ => .refl _)
      (fun u => by rw [tags u]) (fun u t ht => ?_) (fun u y hy => ?_) fun u t ht => ?_, h.records.robots⟩
    · rw [latch_shuttle, contention_queue] at ht
      obtain ⟨y, hy, rfl⟩ := List.mem_map.mp ht
      exact ⟨y, hy, (doubt_spec y).1.symm, (doubt_spec y).2.1.symm⟩
    · rw [latch_shuttle, contention_queue]
      exact ⟨y.doubt, List.mem_map_of_mem hy, (doubt_spec y).1, (doubt_spec y).2.1⟩
    · rw [latch_shuttle, contention_queue] at ht
      obtain ⟨y, hy, rfl⟩ := List.mem_map.mp ht
      obtain ⟨tag, -, source, dest, step, still⟩ := doubt_spec y
      have hf := h.records.fits u y hy
      refine ⟨source ▸ hf.source, dest ▸ hf.dest, fun hs => ?_, fun x hx => absurd hx (still x)⟩
      rw [latch_shuttle, contention_current, tag]
      exact hf.current (step hs)

theorem Keeps.startTransaction (e' : Env) (contend : Bool) (b : Block) : Keeps e b (b.startTransaction e' contend) := by
  unfold Block.startTransaction
  split
  · next he =>
    simp only [Bool.and_eq_true] at he
    split
    · exact .refl b
    · next u _ =>
      split
      · exact .refl b
      · next x _ =>
        dsimp only
        have started : Keeps e b { b with link := { b.link with
            queue := b.link.queue.set u none, lastServed := u
            inFlight := some
              { shuttle := u, txn := x, buffer := x.op.data, discard := false, period := e'.params.bitPeriod } } } := by
          refine .of_lists (.of_link (fun _ hd => by simp [he.1] at hd) fun v _ h => ?_) (fun _ => .refl _)
            (fun _ => .refl _) fun _ => .refl _
          exact (ListsKept.withdrawn_queue b u v).trans (by rw [h, ite_self])
        split
        · exact started.trans (.latch _)
        · exact started
  · exact .refl b

theorem placeStatus_shuttle (b : Block) (s u : ShuttleId) : (b.placeStatus s).shuttle u = b.shuttle u := by
  simp [Block.placeStatus]

/-- The resume of the link (R92). -/
theorem Keeps.resumeLink (b : Block) : Keeps e b b.resumeLink := by
  have enabled : Keeps e b { b with link := { b.link with enabled := true } } :=
    .of_lists (.of_link (fun _ hd => by simp at hd) fun _ _ h => h) (fun _ => .refl _) (fun _ => .refl _) fun _ => .refl _
  unfold Block.resumeLink
  have place : ∀ (l : List ShuttleId), (∀ u ∈ l, (b.shuttle u).mode = .localUnknown) → ∀ c : Block,
      (∀ u, c.shuttle u = b.shuttle u) → Keeps e b c → Keeps e b (l.foldl (fun c u => c.placeStatus u) c) := by
    intro l hl
    induction l with
    | nil => exact fun c _ hc => hc
    | cons u us ih =>
      intro c same hc
      refine ih (fun v hv => hl v (List.mem_cons_of_mem u hv)) _ (fun v => (placeStatus_shuttle c u v).trans (same v)) ?_
      refine hc.trans (.placeStatus ?_)
      rw [same, Shuttle.Down, hl u List.mem_cons_self]
      simp
  exact place _ (fun u hu => by simpa using (List.mem_filter.mp hu).2) _ (fun _ => rfl) enabled

/-! ## Enrolment (R50, R51) and reports (R52) -/

theorem enrollCheck_none (h : enrollCheck b k r = none) : (b.robot k).mode = .absent ∨ (b.robot k).location = .unknown := by
  unfold enrollCheck at h
  split at h
  · cases h
  · next hp =>
    by_contra hno
    simp only [not_or] at hno
    simp [Robot.enrolled, hno] at hp

theorem Keeps.enroll (check : enrollCheck b k r = none) (present : (e.row r).present = true) :
    Keeps e b (b.enroll k r) := by
  have placed (storm : Bool) (x : Robot) : (x.placed storm r).mode = .idle ∧ (x.placed storm r).location = .rowEnd r
      ∧ (x.placed storm r).transfer = x.transfer := by
    unfold Robot.placed
    split <;> exact ⟨rfl, rfl, rfl⟩
  have robotOf : (b.enroll k r).robot k = (b.robot k).placed b.storm r := by simp [Block.enroll]
  have away := enrollCheck_none check
  obtain ⟨-, location, kept⟩ := placed b.storm (b.robot k)
  refine ⟨(ListsKept.modRow b r _).trans (.modRobot _ k _), fun hc => ?_⟩
  have transfer : (b.robot k).transfer = none :=
    (hc.records.robots k).untasked (away.elim .inl fun h => .inr (.inr (.inr (.inr (.inr h)))))
  have free : ∀ r, (b.row r).holder ≠ some k :=
    away.elim (fun h => hc.holds.free_of_mode (.inl h)) fun h => hc.holds.free_of_place fun r => by simp [h]
  refine hc.robot (k := k) free (.of_place ?_ fun r' hl => ?_) (fun r' => ?_) ?_ (fun u tag _ ht => by simp [transfer] at ht)
    (fun j hj => by simp [Block.enroll, Ne.symm hj]) (fun r' => ?_) fun _ => .refl _
  · rw [robotOf, kept, transfer]
  · obtain rfl : r = r' := by simpa [robotOf, location] using hl
    exact present
  · simp [robotOf, location]
  · rw [robotOf, kept]
  · rw [Block.enroll, Block.modRobot_row, Block.row_modRow]
    split
    · next h => subst h; exact ⟨rfl, rfl⟩
    · rfl

/-- A withdrawal of an IDLE robot (R51). -/
theorem Keeps.withdraw (idle : (b.robot k).mode = .idle) : Keeps e b (b.withdraw k) := by
  have robotOf (j : RobotId) : (b.withdraw k).robot j = if k = j then Robot.fresh else b.robot j := by
    unfold Block.withdraw
    dsimp only
    split <;> simp
  have rowOf (r : RowId) : ((b.withdraw k).row r).SameClaim (b.row r) := by
    unfold Block.withdraw
    dsimp only
    split
    · rw [Block.modRobot_row, Block.row_modRow]
      split
      · next h => subst h; exact ⟨rfl, rfl⟩
      · rfl
    all_goals rfl
  have shuttleOf (u : ShuttleId) : (b.withdraw k).shuttle u = b.shuttle u := by
    unfold Block.withdraw
    dsimp only
    split <;> rfl
  refine ⟨?_, fun hc => ?_⟩
  · unfold Block.withdraw
    dsimp only
    refine ListsKept.trans ?_ (.modRobot _ k _)
    split
    · exact .modRow b _ _
    all_goals exact .refl b
  · have transfer := (hc.records.robots k).untasked (.inr (.inl idle))
    refine hc.robot (k := k) (hc.holds.free_of_mode (.inr (.inl idle))) ⟨fun _ => ?_, fun r hm _ => ?_⟩ (fun r => ?_) ?_
      (fun u tag _ ht => by simp [transfer] at ht) (fun j hj => by rw [robotOf, if_neg (Ne.symm hj)]) rowOf
      fun u => by rw [shuttleOf]
    · simp [robotOf, Robot.fresh]
    · simp [robotOf, Robot.fresh] at hm
    · simp [robotOf, Robot.fresh]
    · simp [robotOf, Robot.fresh, transfer]

theorem Keeps.robotReport (k : RobotId) (battery : Byte) (fault : Bool) (ack : Option RowId) (b : Block) :
    Keeps e b (b.robotReport k battery fault ack).1 := by
  unfold Block.robotReport
  have reported : Keeps e b (b.modRobot k (Robot.report battery ack)) := (Quiet.modRobot ⟨rfl, rfl, rfl⟩).keeps
  dsimp only
  split
  · exact reported.trans (.faultReport k _)
  · exact reported.trans (.clearReport k _)

/-! ## Fleet reset, ranges and the bay (R8, R12, R60, R61) -/

theorem fleetReset_row (w : Weather) (x : RowState) :
    (x.fleetReset w).holder = none ∧ (x.fleetReset w).tracker ≠ .holdPending := by
  have cleared : (x.unclaim.resetTracker w).holder = none ∧ (x.unclaim.resetTracker w).tracker ≠ .holdPending := by
    unfold RowState.resetTracker
    have free : x.unclaim.holder = none := rfl
    split
    · exact ⟨(RowState.toReturn_holder _ _).trans free, RowState.toReturn_tracker _ _⟩
    iterate 3
      next ht =>
      split
      · exact ⟨free, by simp⟩
      · split
        · refine ⟨(RowState.toResume_holder _).trans free, ?_⟩
          obtain h | ⟨h, -⟩ := RowState.toResume_tracker x.unclaim <;> simp [h, ht]
        · exact ⟨free, by simp [ht]⟩
    all_goals
      next ht => exact ⟨free, by simp [ht]⟩
  unfold RowState.fleetReset
  dsimp only
  split <;> exact cleared

theorem makeLocal_queue (b : Block) (s u : ShuttleId) : ((b.makeLocal s).shuttle u).queue = (b.shuttle u).queue := by
  unfold Block.makeLocal
  rw [placeStatus_shuttle, Block.discardFlight_eq]
  show ((b.modShuttle s _).shuttle u).queue = _
  rw [Block.shuttle_modShuttle]
  split
  · next h => subst h; rfl
  · rfl

/-- Shuttles whose queues are empty are made LOCAL, after a change that keeps the laws. -/
theorem Keeps.then_makeLocals (l : List ShuttleId) (h : Keeps e a b) (empty : ∀ u, (b.shuttle u).queue = []) :
    Keeps e a (l.foldl (fun c s => c.makeLocal s) b) := by
  induction l generalizing b with
  | nil => exact h
  | cons s l ih =>
    refine ih (h.trans (.makeLocal fun _ t ht => ?_)) fun u => (makeLocal_queue b s u).trans (empty u)
    simp [empty s] at ht

theorem Keeps.fleetReset (e : Env) (b : Block) : Keeps e b (b.fleetReset e) := by
  unfold Block.fleetReset
  extract_lets link b1
  have shuttleOf (u : ShuttleId) : b1.shuttle u = { b.shuttle u with queue := [], current := none, load := none } :=
    mapAll_get b.shuttles _ u
  have robotOf (k : RobotId) : b1.robot k = Robot.fresh := by simp [b1, Block.robot]
  have rowOf (r : RowId) : b1.row r = if (e.row r).present then (b.row r).fleetReset b.weather else b.row r :=
    mapAll_get b.rows _ r
  have queues (u : ShuttleId) : b1.link.queue[u] = none := by simp [b1]
  refine Keeps.then_makeLocals _ ⟨⟨(ListsKept.filterDeadlines b _).keys, fun h he => ⟨(h he).1, queues⟩,
    fun h u hu => ⟨?_, queues u⟩, fun h => ⟨fun u => by simp [shuttleOf], ?_⟩⟩, fun h => ?_⟩ fun u => by rw [shuttleOf]
  · rw [shuttleOf] at hu ⊢
    exact (h u hu).1
  · exact (usedTags_nodup_iff b1).mpr ⟨fun u => by simp [Shuttle.tags, shuttleOf], fun u v _ => by
      simp [Shuttle.tags, shuttleOf]⟩
  · refine .absent (fun k => by simp [robotOf, Robot.fresh]) (fun r => ?_) fun u => by rw [shuttleOf]
    rw [rowOf]
    split
    · exact fleetReset_row _ _
    · next absent =>
      have free : (b.row r).holder = none := Option.eq_none_iff_forall_ne_some.mpr fun k hk =>
        absent (h.holds.fits r k hk).present
      exact ⟨free, fun hp => h.holds.pending r hp free⟩

/-- A shuttle given no range (R12). -/
theorem Keeps.makeOffline (still : Claims e b → (b.shuttle s).Still) : Keeps e b (b.makeOffline s) := by
  have swap (c : Block) : (c.discardFlight s).withdrawLink s = (c.withdrawLink s).discardFlight s := by
    simp only [Block.discardFlight_eq]; rfl
  unfold Block.makeOffline
  rw [swap]
  refine Keeps.trans ⟨.takeDown rfl rfl, fun hc => ?_⟩ (.discardFlight _ s)
  exact (Keeps.withdrawLink _ s).claims (hc.modShuttle (still hc) rfl rfl)

/-! ## Ticks -/

theorem ListsKept.tickShuttles (b : Block) : ListsKept b { b with shuttles := mapAll b.shuttles fun _ x => x.tick } := by
  have at' (u : ShuttleId) : ({ b with shuttles := mapAll b.shuttles fun _ x => x.tick } : Block).shuttle u = (b.shuttle u).tick :=
    mapAll_get b.shuttles _ u
  refine .of_shuttles _ rfl (fun u hu => ?_) fun u => ?_
  · rw [at'] at hu ⊢
    exact ⟨hu, fun h => by simp [Shuttle.tick, h]⟩
  · rw [at']; exact .refl _

theorem Keeps.tickShuttles (b : Block) : Keeps e b { b with shuttles := mapAll b.shuttles fun _ x => x.tick } :=
  .of_lists (.tickShuttles b) (fun _ => .refl _) (fun _ => .refl _) fun u => by
    rw [show ({ b with shuttles := mapAll b.shuttles fun _ x => x.tick } : Block).shuttle u = (b.shuttle u).tick from
      mapAll_get b.shuttles _ u]
    exact ⟨rfl, rfl, rfl⟩

theorem Keeps.expiryRule (e : Env) (kind : DeadlineKind) (b : Block) : Keeps e b (expiryRule e kind b).1 := by
  cases kind with
  | holdConfirm k => exact .holdConfirmExpired k b
  | holdLimit k => exact .holdLimitExpired k b
  | shuttleStep s => exact .shuttleStepExpired s b
  | parkDeadline => exact .parkDeadlineExpired b
  | calmHoldoff => exact .calmHoldoffExpired e b

theorem Keeps.handOut (n : Nat) (h : handOut e n b = some c) : Keeps e b c := by
  induction n generalizing b with
  | zero => cases h; exact .refl _
  | succ n ih =>
    unfold Machine.handOut at h
    split at h
    · cases h; exact .refl _
    · next d _ =>
      obtain ⟨x, hx, hn⟩ := Option.bind_eq_some_iff.mp h
      exact (((Keeps.cancel b d.kind).trans (.expiryRule e d.kind _)).finish hx).trans (ih hn)

theorem Keeps.catchUp (h : b.catchUp e = some c) : Keeps e b c := by
  obtain ⟨x, hx, rfl⟩ := Option.map_eq_some_iff.mp h
  refine (Keeps.handOut _ hx).trans ?_
  have polled : ∀ (l : List ShuttleId) (b : Block), Keeps e b (l.foldl (fun c s => c.takePoll s) b) := by
    intro l
    induction l with
    | nil => exact .refl
    | cons s l ih => exact fun b => (Keeps.takePoll b s).trans (ih _)
  exact polled allShuttles x

end Sys2Proof.Machine
end

section
/-! PROOF. What a request, an event and a command of the whole state keep: the laws of the lists and queues, the claim laws
and the places of the ports. -/

namespace Sys2Proof.Machine

open Sys2Proof

variable {ok : Prop} {s t u : State} {f : Frame} {a : Answer} {d : Block}

/-! ## The places of a port (R119, R184) -/

theorem places_of_le (replies : ∀ p, (t.port p).replies.length ≤ (s.port p).replies.length)
    (reserved : ∀ p, t.reservedPlaces p ≤ s.reservedPlaces p) (h : s.PlacesInRange) : t.PlacesInRange :=
  fun p => (Nat.add_le_add (replies p) (reserved p)).trans (h p)

/-- The ports and the report slots of `s` stand in `t`. -/
structure SamePorts (s t : State) : Prop where
  plant    : t.plant = s.plant
  tracker  : t.tracker = s.tracker
  fleet    : t.fleet = s.fleet
  inFlight : t.inFlight = s.inFlight
  waiting  : t.waiting = s.waiting

namespace SamePorts

theorem port (h : SamePorts s t) (p : Port) : t.port p = s.port p := by
  cases p with
  | plant => exact h.plant
  | tracker => exact h.tracker
  | fleet => exact h.fleet

theorem reservedPlaces (h : SamePorts s t) (p : Port) : t.reservedPlaces p = s.reservedPlaces p := by
  cases p with
  | plant => unfold State.reservedPlaces; rw [h.inFlight, h.waiting]
  | tracker => rfl
  | fleet => rfl

theorem places (h : SamePorts s t) : s.PlacesInRange → t.PlacesInRange :=
  places_of_le (fun p => (congrArg (fun x : PortRec => x.replies.length) (h.port p)).le) fun p => (h.reservedPlaces p).le

theorem freePlaces (h : SamePorts s t) (p : Port) : t.freePlaces p = s.freePlaces p := by
  unfold State.freePlaces
  rw [h.port, h.reservedPlaces]

end SamePorts

@[simp] theorem State.reservedPlaces_modPort (s : State) (p q : Port) (g : PortRec → PortRec) :
    (s.modPort p g).reservedPlaces q = s.reservedPlaces q := by
  cases q <;> simp [State.reservedPlaces]

/-- A change of one port that adds no reply. -/
theorem places_modPort {p : Port} {g : PortRec → PortRec} (fewer : (g (s.port p)).replies.length ≤ (s.port p).replies.length)
    (h : s.PlacesInRange) : (s.modPort p g).PlacesInRange := by
  refine places_of_le (fun q => ?_) (fun q => by simp) h
  rw [State.port_modPort]
  split
  · next hq => exact hq ▸ fewer
  · exact le_refl _

theorem places_shiftStatus (p : Port) (h : s.PlacesInRange) : (s.shiftStatus p).PlacesInRange :=
  places_modPort (le_refl _) h

theorem places_frameBits (p : Port) (x y : Bool) (h : s.PlacesInRange) : (s.frameBits p x y).PlacesInRange :=
  places_modPort (le_refl _) h

/-- A reply takes a free place. -/
theorem places_reply (kind : Byte) (a : Answer) (h : s.PlacesInRange) (free : s.freePlaces f.port ≠ 0) :
    (s.reply f kind a).PlacesInRange := by
  intro p
  have hp := h p
  unfold State.reply
  rw [State.reservedPlaces_modPort, State.port_modPort]
  split
  · next e =>
    unfold State.freePlaces at free
    simp only [List.length_append, List.length_singleton]
    rw [e] at free ⊢
    omega
  · exact hp

/-! ## What a command keeps -/

/-- From `s` to `t` each law is kept, the claim laws only where `ok`. -/
structure Sound (ok : Prop) (s t : State) : Prop where
  lists  : ListsKept s.blk t.blk
  claims : ok → Claims s.env s.blk → Claims t.env t.blk
  places : s.PlacesInRange → t.PlacesInRange

namespace Sound

theorem refl (s : State) : Sound ok s s := ⟨.refl _, fun _ => id, id⟩

/-- A change that leaves the ports and the report slots. -/
theorem of_parts (lists : ListsKept s.blk t.blk) (claims : ok → Claims s.env s.blk → Claims t.env t.blk)
    (same : SamePorts s t := by exact ⟨rfl, rfl, rfl, rfl, rfl⟩) : Sound ok s t := ⟨lists, claims, same.places⟩

/-- A change of the block by a rule that keeps the laws. -/
theorem blk (h : Keeps s.env s.blk d) : Sound ok s { s with blk := d } := of_parts h.lists fun _ => h.claims

/-- A change beside the block, the environment, the ports and the report slots. -/
theorem beside (hb : t.blk = s.blk) (he : t.env = s.env) (same : SamePorts s t := by exact ⟨rfl, rfl, rfl, rfl, rfl⟩) :
    Sound ok s t :=
  of_parts (hb ▸ .refl _) (fun _ h => hb ▸ he ▸ h) same

/-- A change of the ports and of what stands beside the laws. -/
theorem ports (hb : t.blk = s.blk) (he : t.env = s.env) (places : s.PlacesInRange → t.PlacesInRange) : Sound ok s t :=
  ⟨hb ▸ .refl _, fun _ h => hb ▸ he ▸ h, places⟩

theorem shiftStatus (s : State) (p : Port) : Sound ok s (s.shiftStatus p) := ports (by simp) (by simp) (places_shiftStatus p)

theorem frameBits (s : State) (p : Port) (x y : Bool) : Sound ok s (s.frameBits p x y) :=
  ports (by simp) (by simp) (places_frameBits p x y)

theorem trans (h : Sound ok s t) (h' : Sound ok t u) : Sound ok s u :=
  ⟨h.lists.trans h'.lists, fun ho => h'.claims ho ∘ h.claims ho, h'.places ∘ h.places⟩

end Sound

theorem awake_sound {go : Result} (h : awake s go = .next t) (live : go = .next t → Sound ok s t) : Sound ok s t := by
  unfold awake at h
  split at h
  · cases h; exact .refl s
  · exact live h

theorem event_sound {x : Handed} (hx : Mends s.env s.blk x) (h : s.event x = .next t) : Sound ok s t := by
  obtain ⟨b, hb, rfl⟩ := event_next h
  exact .blk (hx.finish hb)

theorem expiry_sound {kind : DeadlineKind} {rule : Block → Handed} (keeps : ∀ b, Keeps s.env b (rule b).1)
    (h : s.expiry kind rule = .next t) : Sound ok s t := by
  refine awake_sound h fun h => ?_
  split at h
  · exact event_sound (.inl ((Keeps.cancel s.blk kind).trans (keeps _))) h
  · cases h; exact .refl s

/-! ## What a request keeps -/

/-- A request's own rule leads from `t`, where its port has a free place, to `u`, where it still has one for the reply, and
keeps the laws. -/
structure BodySound (ok : Prop) (f : Frame) (t u : State) : Prop where
  lists  : ListsKept t.blk u.blk
  claims : ok → Claims t.env t.blk → Claims u.env u.blk
  places : t.PlacesInRange → t.freePlaces f.port ≠ 0 → u.PlacesInRange ∧ u.freePlaces f.port ≠ 0

/-- The rule keeps the laws, whatever it answers. -/
def ServedSound (ok : Prop) (f : Frame) (t : State) (x : Served) : Prop := ∀ u a, x = some (u, a) → BodySound ok f t u

theorem request_sound {q : Request} {body : State → Served} (h : request q f s body = .next t)
    (sound : ServedSound ok f (s.taken f) (body (s.taken f))) : Sound ok s t := by
  have taken : Sound ok s (s.taken f) := (Sound.shiftStatus s f.port).trans (.frameBits _ _ _ _)
  obtain ⟨-, rfl⟩ | ⟨-, -, rfl⟩ | ⟨-, free, c, -, rfl⟩ | ⟨-, free, -, u, a, hu, rfl⟩ := request_next h
  · exact .refl _
  · exact (Sound.shiftStatus s f.port).trans (.frameBits _ _ _ _)
  · exact taken.trans (.ports (by simp) (by simp) fun hp => places_reply _ _ hp (by simpa using free))
  · obtain ⟨lists, claims, places⟩ := sound u a hu
    refine taken.trans ⟨by simpa using lists, by simpa using claims, fun hp => ?_⟩
    obtain ⟨hp, room⟩ := places hp (by simpa using free)
    exact places_reply _ _ hp room

namespace ServedSound

/-- The rule's state, whose ports and reports are those before. -/
theorem of_parts (lists : ListsKept t.blk u.blk) (claims : ok → Claims t.env t.blk → Claims u.env u.blk)
    (same : SamePorts t u := by exact ⟨rfl, rfl, rfl, rfl, rfl⟩) : ServedSound ok f t (some (u, a)) := by
  intro _ _ h
  cases h
  exact ⟨lists, claims, fun hp hf => ⟨same.places hp, by rwa [same.freePlaces]⟩⟩

/-- A change beside the laws. -/
theorem beside (blk : u.blk = t.blk) (present : ∀ r, (u.env.row r).present = (t.env.row r).present)
    (same : SamePorts t u := by exact ⟨rfl, rfl, rfl, rfl, rfl⟩) : ServedSound ok f t (some (u, a)) :=
  of_parts (blk ▸ .refl _) (fun _ h => blk ▸ h.env present) same

theorem same : ServedSound ok f t (some (t, a)) := beside rfl fun _ => rfl

theorem refuse (c : Code) : ServedSound ok f t (t.refuse c) := same

/-- A change of the block alone. -/
theorem blk (h : Keeps t.env t.blk d) : ServedSound ok f t (some ({ t with blk := d }, a)) :=
  of_parts h.lists fun _ => h.claims

/-- A rule on the block, from the block `d`, with its hand-ons taken to their end. -/
theorem serve_of {x : Handed} (lists : ListsKept t.blk d) (claims : ok → Claims t.env t.blk → Claims u.env d)
    (rule : Keeps u.env d x.1) (same : SamePorts t u := by exact ⟨rfl, rfl, rfl, rfl, rfl⟩) :
    ServedSound ok f t (u.serve x a) := by
  intro v c h
  obtain ⟨b, hb, rfl, -⟩ := serve_some h
  obtain ⟨plant, tracker, fleet, inFlight, waiting⟩ := same
  have kept := rule.finish hb
  have served : ServedSound ok f t (some ({ u with blk := b }, c)) :=
    of_parts (lists.trans kept.lists) (fun ho hc => kept.claims (claims ho hc)) ⟨plant, tracker, fleet, inFlight, waiting⟩
  exact served _ _ rfl

theorem serve {x : Handed} (h : Keeps t.env t.blk x.1) : ServedSound ok f t (t.serve x a) := serve_of (.refl _) (fun _ => id) h

theorem onRow {r : RowId} {x : Served} (h : (t.env.row r).present = true → ServedSound ok f t x) :
    ServedSound ok f t (t.onRow r t.refuse x) := by
  unfold State.onRow
  split
  · next hp => exact h hp
  · exact refuse _

theorem onRobot {robot : Byte} {x : RobotId → Served} (h : ∀ k, robotArg robot = some k → ServedSound ok f t (x k)) :
    ServedSound ok f t (onRobot robot t.refuse x) := by
  unfold Machine.onRobot
  split
  · next k hk => exact h k hk
  · exact refuse _

end ServedSound

end Sys2Proof.Machine
end

section
/-! PROOF. Every command keeps the laws, family by family in the order of the model's files. -/

namespace Sys2Proof.Machine

open Sys2Proof

variable {ok : Prop} {s t u : State} {f : Frame} {a : Answer} {d : Block}

/-! ## Accounts, wind and parameters (chapters 8 and 9, R188) -/

theorem execClosePeriod_sound (h : execClosePeriod f s = .next t) : Sound ok s t :=
  request_sound h (.beside rfl fun _ => rfl)

theorem execReadPeriod_sound (h : execReadPeriod f s = .next t) : Sound ok s t :=
  request_sound h (.beside rfl fun _ => rfl)

theorem execReadLive_sound (h : execReadLive f s = .next t) : Sound ok s t := request_sound h .same

theorem Env.row_mapAll (e : Env) (g : RowId → RowData → RowData) (r : RowId) :
    ({ e with data := mapAll e.data g } : Env).row r = g r (e.row r) := mapAll_get e.data g r

theorem execResetAccounts_sound (h : execResetAccounts f s = .next t) : Sound ok s t :=
  request_sound h (.beside rfl (fun r => .trans (congrArg RowData.present (Env.row_mapAll _ _ r)) rfl))

theorem execMastPulse_sound {m : Mast} (h : execMastPulse m s = .next t) : Sound ok s t := by
  refine awake_sound h fun h => ?_
  cases h
  cases m <;> exact .beside rfl rfl

theorem execMastStep_sound (h : execMastStep s = .next t) : Sound ok s t := by
  refine awake_sound h fun h => ?_
  split at h
  · cases h; exact .refl s
  · next m c _ =>
    have stepped : Sound ok s (s.stepMast m c) := by
      cases m <;> exact .beside rfl rfl
    exact stepped.trans (event_sound (.inl (.handLevel _ _ _ _)) h)

theorem execReadWeather_sound (h : execReadWeather f s = .next t) : Sound ok s t := by
  refine request_sound h ?_
  unfold State.weatherRead
  split
  · exact .blk (.of_eq rfl rfl rfl rfl rfl)
  · exact .same

theorem execConfigure_sound {parameter : Byte} {value : BitVec 32} (h : execConfigure f parameter value s = .next t) :
    Sound ok s t := by
  refine request_sound h ?_
  split
  · exact .refuse _
  · dsimp only
    split
    · exact .serve_of (.refl _) (fun _ hc => hc.env fun _ => rfl) (.handLevel _ _ _ _)
    · exact .beside rfl fun _ => rfl

/-! ## Holds (chapter 2) -/

theorem execLockRow_sound {r : RowId} (h : execLockRow f r s = .next t) : Sound ok s t :=
  request_sound h (.onRow fun _ => .blk (Quiet.modRow ⟨rfl, rfl⟩).keeps)

theorem execRestoreRow_sound {r : RowId} (h : execRestoreRow f r s = .next t) : Sound ok s t :=
  request_sound h (.onRow fun _ => .blk (.restoreRow _ _ _))

theorem execFetchAttention_sound {r : RowId} (h : execFetchAttention f r s = .next t) : Sound ok s t :=
  request_sound h (.blk (Quiet.takeNotices _ _ _).keeps)

theorem execHoldConfirm_sound {r : RowId} (h : execHoldConfirm f r s = .next t) : Sound ok s t := by
  refine request_sound h (.onRow fun _ => ?_)
  split
  · next hh => exact .serve (.grantHold hh)
  · exact .blk (.lateConfirm _ _)

theorem execStowDone_sound {r : RowId} (h : execStowDone f r s = .next t) : Sound ok s t := by
  refine request_sound h (.onRow fun _ => ?_)
  split
  · next ht => exact .serve (.stow _ ht)
  · exact .refuse _

theorem execUnstowDone_sound {r : RowId} (h : execUnstowDone f r s = .next t) : Sound ok s t := by
  refine request_sound h (.onRow fun _ => ?_)
  split
  · next ht => exact .serve ((Keeps.unstow ht).trans (.afterUnstow _ _))
  · exact .refuse _

theorem execRowFault_sound {r : RowId} (h : execRowFault f r s = .next t) : Sound ok s t :=
  request_sound h (.onRow fun _ => .serve (.rowFaulted _ _))

theorem execRowReady_sound {r : RowId} (h : execRowReady f r s = .next t) : Sound ok s t := by
  refine request_sound h (.onRow fun _ => ?_)
  split
  · next ht => exact .blk ((Keeps.repaired _ ht).trans (Quiet.classAnew _ _ _).keeps)
  · split
    · exact .blk ((Quiet.modRow ⟨rfl, rfl⟩).keeps.trans (Quiet.classAnew _ _ _).keeps)
    · exact .refuse _

theorem execEnterRow_sound {robot : Byte} {r : RowId} (h : execEnterRow f robot r s = .next t) : Sound ok s t := by
  refine request_sound h (.onRow fun _ => .onRobot fun k _ => ?_)
  split
  · exact .same
  · next hc => exact .blk (.claimRow hc)

theorem execExitRow_sound {robot : Byte} (h : execExitRow f robot s = .next t) : Sound ok s t := by
  refine request_sound h (.onRobot fun k _ => ?_)
  split
  · exact .refuse _
  · next r hr => exact .serve (.exitRow hr)

/-! ## Links and ports (chapters 5 and 11) -/

theorem execLinkResume_sound (h : execLinkResume f s = .next t) : Sound ok s t := by
  refine request_sound h ?_
  split
  · exact .refuse _
  · exact .blk (.resumeLink _)

theorem execContendAsserted_sound (h : execContendAsserted s = .next t) : Sound ok s t := by
  have level (b : Block) (hb : Keeps s.env s.blk b) : Sound ok s { s with contend := true, blk := b } :=
    .of_parts hb.lists fun _ => hb.claims
  unfold execContendAsserted at h
  split at h
  · cases h; exact .refl s
  · split at h
    · cases h; exact level s.blk (.refl _)
    · cases h; exact level s.blk.latch (.latch _)

theorem execContendDeasserted_sound (h : execContendDeasserted s = .next t) : Sound ok s t := by
  cases h
  exact .beside rfl rfl

theorem execTransactionStart_sound (h : execTransactionStart s = .next t) : Sound ok s t := by
  refine awake_sound h fun h => ?_
  cases h
  exact .blk (.startTransaction _ _ _)

theorem execTransactionCompletion_sound {data : StatusBytes} (h : execTransactionCompletion data s = .next t) : Sound ok s t :=
  awake_sound h fun h => event_sound (completeTransaction_mends _ _ _) h

theorem execFetch_sound {p : Port} {n : Nat} (h : execFetch p n s = .next t) : Sound ok s t := by
  refine awake_sound h fun h => ?_
  split at h
  · cases h; exact .shiftStatus s p
  · have shifted (out : List Byte) : Sound ok s (s.modPort p fun z => { z with shifted := out }) :=
      .ports (by simp) (by simp) (places_modPort (le_refl _))
    dsimp only at h
    split at h
    · cases h; exact (shifted _).trans (.frameBits _ _ _ _)
    · next x rest hr =>
      split at h
      · cases h
        refine ((shifted _).trans (.ports (by simp) (by simp) (places_modPort ?_))).trans (.frameBits _ _ _ _)
        simp [hr]
      · cases h; exact (shifted _).trans (.frameBits _ _ _ _)

theorem execStatusRead_sound {p : Port} {n : Fin 3} (h : execStatusRead p n s = .next t) : Sound ok s t :=
  awake_sound h fun h => by cases h; exact .shiftStatus s p

theorem execTruncatedFrame_sound {p : Port} (h : execTruncatedFrame p s = .next t) : Sound ok s t :=
  awake_sound h fun h => by cases h; exact (Sound.shiftStatus s p).trans (.frameBits _ _ _ _)

theorem execUnknownRequest_sound {kind : Byte} (h : execUnknownRequest f kind s = .next t) : Sound ok s t := by
  unfold execUnknownRequest at h
  split at h
  · cases h
  · exact request_sound h (.refuse _)

theorem holdsPlace_unreserve (x : Option Report) : Report.holdsPlace (x.map Report.unreserve) = 0 := by cases x <;> rfl

theorem execPortReset_sound {p : Port} (h : execPortReset p s = .next t) : Sound ok s t := by
  refine awake_sound h fun h => ?_
  have emptied : Sound ok s (((s.shiftStatus p).modPort p fun z => { z with replies := [] }).frameBits p false false) :=
    ((Sound.shiftStatus s p).trans (.ports (by simp) (by simp) (places_modPort (Nat.zero_le _)))).trans (.frameBits _ _ _ _)
  dsimp only at h
  split at h
  · cases h
    refine emptied.trans (.ports rfl rfl (places_of_le (fun p => by cases p <;> rfl) fun p => ?_))
    cases p <;> simp [State.reservedPlaces, holdsPlace_unreserve]
  · cases h; exact emptied
  · cases h; exact emptied

/-! ## Robots and rounds (chapters 3 and 6) -/

theorem execReadRobot_sound {robot : Byte} (h : execReadRobot f robot s = .next t) : Sound ok s t :=
  request_sound h (.onRobot fun _ _ => .same)

theorem execFetchOrders_sound (h : execFetchOrders f s = .next t) : Sound ok s t :=
  request_sound h (.blk (Quiet.takeOutcomes _).keeps)

theorem execEnroll_sound {robot : Byte} {r : RowId} (h : execEnroll f robot r s = .next t) : Sound ok s t := by
  refine request_sound h (.onRow fun hp => .onRobot fun k _ => ?_)
  split
  · exact .refuse _
  · next hc => exact .serve (.enroll hc hp)

theorem execWithdraw_sound {robot : Byte} (h : execWithdraw f robot s = .next t) : Sound ok s t := by
  refine request_sound h (.onRobot fun k _ => ?_)
  split
  · next hw => exact .blk (.withdraw hw.1)
  · exact .refuse _

theorem execRobotStatus_sound {robot battery : Byte} {fault : Bool} {ack : Option RowId}
    (h : execRobotStatus f robot battery fault ack s = .next t) : Sound ok s t := by
  refine request_sound h (.onRobot fun k _ => ?_)
  split
  · exact .refuse _
  · exact .serve (.robotReport _ _ _ _ _)

theorem execFleetReset_sound (h : execFleetReset f s = .next t) : Sound ok s t :=
  request_sound h (.serve (.fleetReset _ _))

theorem execRequestWork_sound {robot : Byte} (h : execRequestWork f robot s = .next t) : Sound ok s t := by
  refine request_sound h (.onRobot fun k _ => ?_)
  split
  · exact .refuse _
  · split
    · exact .refuse _
    · exact .serve ((Quiet.buildRound _ _ _ _).keeps.trans (.handToRound _ _ _))

theorem execCleanDone_sound {robot : Byte} (h : execCleanDone f robot s = .next t) : Sound ok s t := by
  refine request_sound h (.onRobot fun k _ => ?_)
  split
  · exact .refuse _
  · next r _ =>
    refine .serve_of (.refl _) (fun _ hc => hc.env fun r' => ?_)
      ((Quiet.modRow ⟨rfl, rfl⟩).trans (.settleEntry _ _ _ _ _ _)).keeps
    rw [Env.row_modRow]
    split
    · next e => subst e; rfl
    · rfl

theorem execCleanAbort_sound {robot : Byte} (h : execCleanAbort f robot s = .next t) : Sound ok s t := by
  refine request_sound h (.onRobot fun k _ => ?_)
  split
  · exact .refuse _
  · exact .serve (Quiet.settleEntry _ _ _ _ _ _).keeps

/-! ## The row table (chapter 1) -/

theorem execReadRow_sound {r : RowId} (h : execReadRow f r s = .next t) : Sound ok s t :=
  request_sound h (.onRow fun _ => .beside rfl fun _ => rfl)

theorem loadedState_free (b : Block) (entries : Vector PlaceEntry 16) (r : RowId) :
    (loadedState b entries r).holder = none ∧ (loadedState b entries r).tracker ≠ .holdPending := by
  unfold loadedState
  split
  · refine ⟨RowState.toRelease_holder _ _, fun h => ?_⟩
    revert h
    decide
  · exact ⟨rfl, by decide⟩

theorem none_enrolled {b : Block} (h : ¬ b.anyEnrolled = true) (k : RobotId) : (b.robot k).mode = .absent := by
  by_contra hk
  exact h ((Block.anyEnrolled_iff b).mpr ⟨k, hk⟩)

/-- MAP BAY, with no robot enrolled (R7, R8). -/
theorem Claims.loadBay {bay : Bay} {entries : Vector PlaceEntry 16} (robots : ∀ k, (t.blk.robot k).mode = .absent)
    (h : Claims t.env t.blk) : Claims (t.loadBay bay entries).env (t.loadBay bay entries).blk := by
  obtain ⟨untasked, rows, queues⟩ := h.of_absent robots
  refine .absent (fun k => ⟨robots k, untasked k⟩) (fun r => ?_) queues
  show ((t.blk.mapRows _).row r).holder = _ ∧ ((t.blk.mapRows _).row r).tracker ≠ _
  rw [Block.row_mapRows]
  split
  · exact loadedState_free _ _ _
  · exact rows r

theorem execMapBay_sound {bay : Byte} {entries : Vector PlaceEntry 16} (h : execMapBay f bay entries s = .next t) :
    Sound ok s t := by
  refine request_sound h ?_
  split
  · exact .refuse _
  · split
    · exact .refuse _
    · next b _ absent =>
      exact .serve_of (d := (State.loadBay _ b entries).blk) (.of_eq rfl rfl rfl)
        (fun _ => Claims.loadBay (none_enrolled absent)) (.refl _)

/-- SET SHUTTLE, with no robot enrolled (R11, R12). -/
theorem setRange_keeps (v : ShuttleId) (given : Option (Bay × Bay)) (robots : ∀ k, (t.blk.robot k).mode = .absent) :
    Keeps t.env t.blk (t.setRange v given).blk := by
  have ranged : Keeps t.env t.blk (t.blk.modShuttle v fun x => { x with range := given }) :=
    .modShuttle ⟨rfl, rfl, rfl⟩ fun _ => id
  have still (hc : Claims t.env (t.blk.modShuttle v fun x => { x with range := given })) :
      ((t.blk.modShuttle v fun x => { x with range := given }).shuttle v).Still := by
    intro y hy
    rw [(hc.of_absent robots).2.2 v] at hy
    cases hy
  unfold State.setRange
  dsimp only
  split
  · exact ranged.trans (.makeLocal still)
  · exact ranged.trans (.makeOffline still)

theorem execSetShuttle_sound {shuttle first last : Byte} (h : execSetShuttle f shuttle first last s = .next t) : Sound ok s t := by
  refine request_sound h ?_
  split
  · split
    · exact .refuse _
    · next none =>
      split
      · exact .refuse _
      · next v given _ _ _ =>
        have kept := setRange_keeps v given (none_enrolled none)
        refine .of_parts kept.lists (fun _ hc => (kept.claims hc).env fun r => ?_)
        refine (congrArg RowData.present (mapAll_get _ _ r)).trans ?_
        split <;> rfl
  · exact .refuse _

/-- Every due time moves by the same amount (R14). -/
theorem ListsKept.moveDue (b : Block) (n : FarmSecond) :
    ListsKept b { b with deadlines := b.deadlines.map fun d => { d with due := d.due + n } } := by
  have kinds : (b.deadlines.map fun d => { d with due := d.due + n }).map Deadline.kind = b.deadlines.map Deadline.kind := by
    simp
  refine ⟨fun h => ⟨by rw [kinds]; exact h.1, fun d hd => ?_⟩, id, id, id⟩
  obtain ⟨x, hx, rfl⟩ := List.mem_map.mp hd
  rw [kinds]
  exact h.2 x hx

theorem execSetTime_sound {v : FarmSecond} (h : execSetTime f v s = .next t) : Sound ok s t := by
  have claims (hc : Claims (s.taken f).env (s.taken f).blk) : Claims (s.taken f).env ((s.taken f).setNow v).blk :=
    hc.same (fun _ => .refl _) (fun _ => .refl _) fun _ => .refl _
  exact request_sound h (.of_parts (.moveDue _ _) (fun _ hc => (claims hc).env fun _ => rfl))

end Sys2Proof.Machine
end

section
/-! PROOF. Every command keeps the laws, continued, and with them every step; the state after reset meets them. -/

namespace Sys2Proof.Machine

open Sys2Proof

variable {ok : Prop} {s t u : State} {f : Frame} {a : Answer} {d : Block}

/-! ## Output reports and row steps (chapter 7) -/

theorem reportCheck_none {n : Byte} {v : BitVec 16} {pairs : List (RowId × BitVec 16)} (h : reportCheck f v n pairs s = none) :
    s.slotFree = true ∧ 2 ≤ s.freePlaces .plant := by
  unfold reportCheck at h
  split at h
  · cases h
  · split at h
    · cases h
    · split at h
      · cases h
      · next hb =>
        simp only [not_or, Bool.not_eq_false, Nat.not_lt] at hb
        exact hb

/-- A new report reserves one place (R119). -/
theorem takeSlot_reserved (x : Report) (free : s.slotFree = true) (reserved : x.reserved = true) :
    (s.takeSlot x).reservedPlaces .plant = s.reservedPlaces .plant + 1 := by
  unfold State.takeSlot
  cases hf : s.inFlight with
  | none => simp [State.reservedPlaces, Report.holdsPlace, reserved, hf, Nat.add_comm]
  | some y =>
    have hw : s.waiting = none := by simpa [State.slotFree, hf] using free
    simp [State.reservedPlaces, Report.holdsPlace, reserved, hf, hw]

theorem takeSlot_blk (x : Report) : (s.takeSlot x).blk = s.blk := by unfold State.takeSlot; split <;> rfl
theorem takeSlot_env (x : Report) : (s.takeSlot x).env = s.env := by unfold State.takeSlot; split <;> rfl
theorem takeSlot_port (x : Report) (p : Port) : (s.takeSlot x).port p = s.port p := by
  unfold State.takeSlot; split <;> cases p <;> rfl

/-- An accepted report leaves a place for the reply that accepts it (R118, R119). -/
theorem takeSlot_sound (x : Report) (free : s.slotFree = true) (room : 2 ≤ s.freePlaces .plant) (reserved : x.reserved = true) :
    BodySound ok f s (s.takeSlot x) := by
  have plant := takeSlot_reserved x free reserved
  have other (p : Port) (hp : p ≠ .plant) : (s.takeSlot x).reservedPlaces p = s.reservedPlaces p := by
    cases p
    · exact absurd rfl hp
    · rfl
    · rfl
  refine ⟨takeSlot_blk x ▸ .refl _, fun _ h => by rw [takeSlot_blk, takeSlot_env]; exact h, fun hp hf => ⟨fun p => ?_, ?_⟩⟩
  all_goals unfold State.freePlaces at *
  · rw [takeSlot_port]
    by_cases e : p = .plant
    · subst e; omega
    · rw [other p e]; exact hp p
  · rw [takeSlot_port]
    by_cases e : f.port = .plant
    · rw [e]; omega
    · rw [other _ e]; exact hf

theorem execOutputReport_sound {pref v : BitVec 16} {n : Byte} {pairs : List (RowId × BitVec 16)}
    (h : execOutputReport f pref v n pairs s = .next t) : Sound ok s t := by
  refine request_sound h ?_
  split
  · exact .refuse _
  · next hc =>
    obtain ⟨free, room⟩ := reportCheck_none hc
    intro u a hu
    cases hu
    exact takeSlot_sound _ free room rfl

theorem litStep_marks (p : Params) (x : Report) (pm : Nat) (z : RowData) (y : RowState) (bank : Bank) :
    (litStep p x pm z y bank).1.present = z.present ∧ (litStep p x pm z y bank).2.1.SameClaim y := by
  unfold litStep
  dsimp only
  split <;> exact ⟨rfl, rfl, rfl⟩

/-- One row's figures change, not whether it is present. -/
theorem present_modRow {e : Env} {r : RowId} {g : RowData → RowData} (h : (g (e.row r)).present = (e.row r).present) (r' : RowId) :
    ((e.modRow r g).row r').present = (e.row r').present := by
  rw [Env.row_modRow]
  split
  · next hr => exact hr ▸ h
  · rfl

/-- A change of one row's figures and marks that no law reads, beside other fields. -/
theorem Sound.rowFigures {r : RowId} {g : RowData → RowData} {y : RowState → RowState} {bank : Bank}
    (present : (g (s.env.row r)).present = (s.env.row r).present) (same : (y (s.blk.row r)).SameClaim (s.blk.row r)) :
    Sound ok s { s with env := s.env.modRow r g, blk := s.blk.modRow r y, live := bank } :=
  .of_parts (.modRow _ _ _) fun _ hc => ((Quiet.modRow same).keeps.claims hc).env (present_modRow present)

/-- A row step changes a row's figures and marks alone (R123 to R131). -/
theorem stepRow_sound (x : Report) (r : RowId) (pm : Nat) : Sound ok s (s.stepRow x r pm).1 := by
  unfold State.stepRow
  dsimp only
  split
  · exact .refl s
  · split
    · exact .of_parts (.refl _) fun _ hc => hc.env (present_modRow rfl)
    · obtain ⟨present, same⟩ := litStep_marks s.env.params x pm (s.env.row r) (s.blk.row r) s.live
      exact .rowFigures present same

/-- What a row step leaves of the reports and the ports. -/
theorem stepRow_reports (x : Report) (r : RowId) (pm : Nat) :
    (s.stepRow x r pm).1.inFlight = s.inFlight ∧ (s.stepRow x r pm).2.reserved = x.reserved := by
  unfold State.stepRow
  dsimp only
  split
  · exact ⟨rfl, rfl⟩
  · split <;> exact ⟨rfl, rfl⟩

/-- After a step the report in flight stands in its place, or its completion takes the place reserved for it (R121). -/
theorem afterStep_sound {x y : Report} (flying : s.inFlight = some x) (reserved : y.reserved = x.reserved) :
    Sound ok s (s.afterStep y) := by
  unfold State.afterStep
  split
  · unfold State.completeReport
    refine .ports rfl rfl fun h p => ?_
    have hp := h p
    cases p
    · simp only [State.reservedPlaces, Report.holdsPlace, flying, State.port] at hp ⊢
      rw [reserved]
      split
      · next hr => simp only [hr, if_true] at hp; simp only [List.length_append, List.length_singleton]; omega
      · omega
    · exact hp
    · exact hp
  · refine .ports rfl rfl (places_of_le (fun p => by cases p <;> rfl) fun p => ?_)
    cases p
    · simp [State.reservedPlaces, Report.holdsPlace, flying, reserved]
    · exact le_refl _
    · exact le_refl _

theorem execRowStep_sound (h : execRowStep s = .next t) : Sound ok s t := by
  refine awake_sound h fun h => ?_
  split at h
  · cases h; exact .refl s
  · split at h
    · cases h; exact .refl s
    · next x flying =>
      split at h
      · cases h; exact .refl s
      · next r pm _ =>
        cases h
        obtain ⟨same, reserved⟩ := stepRow_reports (s := s) x r pm.toNat
        exact (stepRow_sound x r pm.toNat).trans (afterStep_sound (same.trans flying) reserved)

theorem execCalibrateRow_sound {r : RowId} {kc : BitVec 16} (h : execCalibrateRow f r kc s = .next t) : Sound ok s t := by
  refine request_sound h (.onRow fun _ => ?_)
  have kept (e : Env) (b : Block) : Keeps e b ((b.modRow r fun x => { x with restart := true }).classAnew (e.modRow r
      (RowData.calibrate (clamp 2048 6144 kc.toNat))) r) :=
    ((Quiet.modRow ⟨rfl, rfl⟩).trans (.classAnew _ _ _)).keeps
  exact .of_parts (kept (s.taken f).env _).lists fun _ hc => ((kept _ _).claims hc).env (present_modRow rfl)

/-! ## Storms (chapter 10) -/

/-- Log entry 35: the robot of a BRACED has no transfer. -/
def BraceFree (i : Instr) (b : Block) : Prop :=
  ∀ f robot (k : RobotId), i = .braced f robot → robot.toNat = k.val → (b.robot k).transfer = none

theorem robotArg_some {robot : Byte} {k : RobotId} (h : robotArg robot = some k) : robot.toNat = k.val := by
  unfold robotArg at h
  split at h
  · cases h; rfl
  · cases h

theorem execBraced_sound {robot : Byte} (h : execBraced f robot s = .next t) :
    Sound (BraceFree (.braced f robot) s.blk) s t := by
  refine request_sound h (.onRobot fun k hk => ?_)
  split
  · exact .refuse _
  · split
    · exact .same
    · split
      · next allowed =>
        refine .serve_of (.brace k _) (fun free hc => hc.brace allowed ?_) (.refl _)
        simpa using free f robot k rfl (robotArg_some hk)
      · exact .refuse _

theorem execUnbraced_sound {robot : Byte} (h : execUnbraced f robot s = .next t) : Sound ok s t := by
  refine request_sound h (.onRobot fun k _ => ?_)
  split
  · exact .refuse _
  · next hm =>
    split
    · exact .refuse _
    · next hs => exact .serve (.unbrace (by simpa using hm) (by simpa using hs))

/-! ## The time base and the reset pin (chapter 1, R190) -/

theorem execTick_sound (h : execTick s = .next t) : Sound ok s t := by
  refine awake_sound h fun h => ?_
  split at h
  · cases h
  · next b hb =>
    cases h
    have kept := (Keeps.catchUp hb).trans (.tickShuttles b)
    refine .of_parts kept.lists fun _ hc => (kept.claims hc).env fun r => ?_
    refine (congrArg RowData.present (Env.row_mapAll _ _ r)).trans ?_
    unfold RowData.tick
    split <;> rfl

theorem execResetnAsserted_sound (h : execResetnAsserted s = .next t) : Sound ok s t := by
  cases h
  exact .beside rfl rfl

theorem Block.fresh_row (r : RowId) : Block.fresh.row r = RowState.fresh := Vector.getElem_replicate ..
theorem Block.fresh_robot (k : RobotId) : Block.fresh.robot k = Robot.fresh := Vector.getElem_replicate ..
theorem Block.fresh_shuttle (v : ShuttleId) : Block.fresh.shuttle v = Shuttle.fresh := Vector.getElem_replicate ..

theorem fresh_keys : Block.fresh.KeysDistinct := by decide
theorem fresh_link : Block.fresh.LinkAgrees := by decide
theorem fresh_down : Block.fresh.DownAreSilent := fun v _ => ⟨by rw [Block.fresh_shuttle]; rfl, Vector.getElem_replicate ..⟩

theorem fresh_transfers : Block.fresh.TransfersInRange := by
  refine ⟨fun v => by rw [Block.fresh_shuttle]; decide, (usedTags_nodup_iff _).mpr ⟨fun v => ?_, fun v w _ => ?_⟩⟩
  · rw [Block.fresh_shuttle]; decide
  · rw [Block.fresh_shuttle, Shuttle.tags]; exact List.disjoint_nil_left _

theorem fresh_claims (e : Env) : Claims e Block.fresh :=
  .absent (fun k => by rw [Block.fresh_robot]; exact ⟨rfl, rfl, fun r => by simp [Robot.fresh]⟩)
    (fun r => by rw [Block.fresh_row]; exact ⟨rfl, by decide⟩) fun v => by rw [Block.fresh_shuttle]; rfl

theorem reset_places : State.reset.PlacesInRange := fun p => by cases p <;> decide

theorem execPowerOn_sound (h : execPowerOn s = .next t) : Sound ok s t := by
  cases h
  have same : SamePorts State.reset { State.reset with pending := s.pending, contend := s.contend, freeSeed := s.freeSeed } :=
    ⟨rfl, rfl, rfl, rfl, rfl⟩
  exact ⟨⟨fun _ => fresh_keys, fun _ => fresh_link, fun _ => fresh_down, fun _ => fresh_transfers⟩, fun _ _ => fresh_claims _,
    fun _ => same.places reset_places⟩

/-! ## Transfers (chapter 4) -/

theorem execTransfer_sound {robot : Byte} {dest : Dest} (h : execTransfer f robot dest s = .next t) : Sound ok s t := by
  refine request_sound h ?_
  split
  · refine .onRobot fun k _ => ?_
    split
    · exact .refuse _
    · next b v tag ha => exact .serve (.askTransfer ha)
  · exact .refuse _

theorem execReadShuttle_sound {shuttle : Byte} (h : execReadShuttle f shuttle s = .next t) : Sound ok s t := by
  refine request_sound h ?_
  split
  · exact .refuse _
  · unfold State.linkRead
    split
    · exact .blk (.of_eq rfl rfl rfl rfl rfl)
    · exact .same

theorem execClearShuttle_sound {shuttle : Byte} (h : execClearShuttle f shuttle s = .next t) : Sound ok s t := by
  refine request_sound h ?_
  split
  · exact .refuse _
  · split
    · next hm => exact .blk (.makeLocal fun hc => hc.still (by rw [hm]; decide))
    · exact .refuse _

theorem execPollDue_sound {v : ShuttleId} (h : execPollDue v s = .next t) : Sound ok s t :=
  awake_sound h fun h => by cases h; exact .blk (.takePoll _ _)

/-! ## Every command and every step -/

/-- Every command keeps the laws, a BRACED the claim laws where its robot has no transfer (log entry 35). -/
theorem exec_sound (i : Instr) (h : exec i s = .next t) : Sound (BraceFree i s.blk) s t := by
  cases i with
  | fetch _ _ => exact execFetch_sound h
  | statusRead _ n => exact execStatusRead_sound (n := n) h
  | truncatedFrame _ => exact execTruncatedFrame_sound h
  | unknownRequest _ _ => exact execUnknownRequest_sound h
  | portReset _ => exact execPortReset_sound h
  | readRow _ _ => exact execReadRow_sound h
  | readRobot _ _ => exact execReadRobot_sound h
  | readShuttle _ _ => exact execReadShuttle_sound h
  | readWeather _ => exact execReadWeather_sound h
  | mapBay _ _ _ => exact execMapBay_sound h
  | setShuttle _ _ _ _ => exact execSetShuttle_sound h
  | configure _ _ _ => exact execConfigure_sound h
  | setTime _ _ => exact execSetTime_sound h
  | outputReport _ _ _ _ _ => exact execOutputReport_sound h
  | closePeriod _ => exact execClosePeriod_sound h
  | readPeriod _ => exact execReadPeriod_sound h
  | readLive _ => exact execReadLive_sound h
  | resetAccounts _ => exact execResetAccounts_sound h
  | calibrateRow _ _ _ => exact execCalibrateRow_sound h
  | lockRow _ _ => exact execLockRow_sound h
  | restoreRow _ _ => exact execRestoreRow_sound h
  | clearShuttle _ _ => exact execClearShuttle_sound h
  | linkResume _ => exact execLinkResume_sound h
  | fleetReset _ => exact execFleetReset_sound h
  | fetchAttention _ _ => exact execFetchAttention_sound h
  | holdConfirm _ _ => exact execHoldConfirm_sound h
  | stowDone _ _ => exact execStowDone_sound h
  | unstowDone _ _ => exact execUnstowDone_sound h
  | rowFault _ _ => exact execRowFault_sound h
  | rowReady _ _ => exact execRowReady_sound h
  | enroll _ _ _ => exact execEnroll_sound h
  | withdraw _ _ => exact execWithdraw_sound h
  | robotStatus _ _ _ _ _ => exact execRobotStatus_sound h
  | requestWork _ _ => exact execRequestWork_sound h
  | enterRow _ _ _ => exact execEnterRow_sound h
  | exitRow _ _ => exact execExitRow_sound h
  | cleanDone _ _ => exact execCleanDone_sound h
  | cleanAbort _ _ => exact execCleanAbort_sound h
  | braced _ _ => exact execBraced_sound h
  | unbraced _ _ => exact execUnbraced_sound h
  | transfer _ _ _ => exact execTransfer_sound h
  | fetchOrders _ => exact execFetchOrders_sound h
  | resetnAsserted => exact execResetnAsserted_sound h
  | powerOn => exact execPowerOn_sound h
  | tick => exact execTick_sound h
  | mastPulse _ => exact execMastPulse_sound h
  | contendAsserted => exact execContendAsserted_sound h
  | contendDeasserted => exact execContendDeasserted_sound h
  | holdConfirmExpiry k => exact expiry_sound (.holdConfirmExpired k) h
  | holdLimitExpiry k => exact expiry_sound (.holdLimitExpired k) h
  | shuttleStepExpiry v => exact expiry_sound (.shuttleStepExpired v) h
  | parkDeadlineExpiry => exact expiry_sound .parkDeadlineExpired h
  | calmHoldoffExpiry => exact expiry_sound (.calmHoldoffExpired _) h
  | pollDue _ => exact execPollDue_sound h
  | transactionStart => exact execTransactionStart_sound h
  | transactionCompletion _ => exact execTransactionCompletion_sound h
  | rowStep => exact execRowStep_sound h
  | mastStep => exact execMastStep_sound h

theorem step_sound (h : step s = .next t) :
    Sound (∀ i, s.pending.head? = some i → BraceFree i s.blk) s t := by
  unfold step at h
  split at h
  · cases h; exact .refl s
  · next i rest hp =>
    obtain ⟨lists, claims, places⟩ := exec_sound i h
    have same : SamePorts s { s with pending := rest } := ⟨rfl, rfl, rfl, rfl, rfl⟩
    exact ⟨lists, fun ok => claims (ok i (by rw [hp]; rfl)), fun hs => places (same.places hs)⟩

/-! ## The statements -/

/-- Settles O58: every command keeps each law of the lists and queues for itself (`exec_sound`). -/
theorem listsAndQueuesStayInRange : Obligations.ListsAndQueuesStayInRange := by
  unfold Obligations.ListsAndQueuesStayInRange
  exact ⟨fun s t hs h => (step_sound h).lists.keys hs, fun s t hs h => (step_sound h).lists.link hs,
    fun s t hs h => (step_sound h).lists.down hs, fun s t hs h => (step_sound h).lists.range hs,
    fun s t hs h => (step_sound h).places hs⟩

/-- Settles O59: the two claim laws together are kept by every command (`exec_sound`), and no robot holds two rows, since a
holder stands in one place (`Holds.one_row`). -/
theorem claimsStayAgreed : Obligations.ClaimsStayAgreed := by
  unfold Obligations.ClaimsStayAgreed
  intro s t hs hr h ok
  have claims : Claims t.env t.blk := by
    refine (step_sound h).claims (fun i hi f robot k hb => ?_) (claims_iff.mp ⟨hs, hr⟩)
    exact ok f robot k (hb ▸ hi)
  obtain ⟨holds, records⟩ := claims_iff.mpr claims
  exact ⟨holds, records, fun r r' k => claims.holds.one_row⟩

/-- Settles O60, law by law on the tables of the power-on state. -/
theorem resetMeetsTheLaws : Obligations.ResetMeetsTheLaws := by
  have row (r : RowId) : State.reset.env.row r = RowData.fresh := Vector.getElem_replicate ..
  obtain ⟨holds, records⟩ := claims_iff.mpr (fresh_claims State.reset.env)
  refine ⟨by decide, ⟨by decide, fun r => by rw [row]; decide, by decide, by decide⟩, by decide, fun r => ?_, fresh_keys,
    fresh_link, fresh_down, fresh_transfers, reset_places, by decide, holds, records⟩
  show (Block.fresh.row r).MarksAgree
  rw [Block.fresh_row]
  decide

end Sys2Proof.Machine
end

section
/-! PROOF. The deadline list's arming and cancelling (R16, R17) and SET TIME (R14). -/

namespace Sys2Proof.Machine

open Sys2Proof

/-! ## Arming and cancelling -/

theorem insertDeadline_sorted {now : FarmSecond} {d : Deadline} {l : List Deadline}
    (sorted : l.Pairwise fun x y => x.remaining now ≤ y.remaining now) :
    ∃ front back, insertDeadline now d l = front ++ d :: back ∧ front ++ back = l
      ∧ (∀ x ∈ front, x.remaining now ≤ d.remaining now) ∧ (∀ x ∈ back, d.remaining now < x.remaining now)
      ∧ (insertDeadline now d l).Pairwise fun x y => x.remaining now ≤ y.remaining now := by
  obtain ⟨front, back, rfl, split, before, after⟩ := insertDeadline_split now d l
  have later : ∀ x ∈ back, d.remaining now < x.remaining now := by
    cases back with
    | nil => simp
    | cons y ys =>
      have hy : d.remaining now < y.remaining now := after y (by simp)
      obtain ⟨hys, -⟩ := List.pairwise_cons.mp (List.pairwise_append.mp sorted).2.1
      intro x hx
      obtain rfl | hx := List.mem_cons.mp hx
      · exact hy
      · exact hy.trans_le (hys x hx)
  refine ⟨front, back, split, rfl, before, later, ?_⟩
  obtain ⟨hfront, hback, across⟩ := List.pairwise_append.mp sorted
  rw [split, List.pairwise_append, List.pairwise_cons]
  refine ⟨hfront, ⟨fun x hx => (later x hx).le, hback⟩, fun x hx y hy => ?_⟩
  obtain rfl | hy := List.mem_cons.mp hy
  · exact before x hx
  · exact across x hx y hy

/-- An armed kind has its whole duration left (R16, R20). -/
theorem Block.timeLeft_arm (e : Env) (b : Block) (kind : DeadlineKind) {n : Nat} (h : n < 2 ^ 32) :
    (b.arm e kind n).timeLeft e kind = n := by
  obtain ⟨front, back, parts, split, -, -⟩ := insertDeadline_split e.now { due := e.now + BitVec.ofNat 32 n, kind := kind }
    (b.deadlines.filter fun d => d.kind != kind && some d.kind != kind.sibling)
  have others : front.find? (fun d => d.kind == kind) = none := by
    refine List.find?_eq_none.mpr fun d hd => ?_
    have hd : d ∈ b.deadlines.filter fun d => d.kind != kind && some d.kind != kind.sibling :=
      parts ▸ List.mem_append_left back hd
    simp only [List.mem_filter, Bool.and_eq_true, bne_iff_ne] at hd
    simpa using hd.2.1
  have first : (b.arm e kind n).deadlines.find? (fun d => d.kind == kind)
      = some { due := e.now + BitVec.ofNat 32 n, kind := kind } := by
    show (insertDeadline _ _ _).find? _ = _
    rw [split, List.find?_append, others]
    simp
  unfold Block.timeLeft
  rw [first]
  exact Deadline.remaining_fresh e.now kind h

theorem Block.armed_cancel (b : Block) (kind : DeadlineKind) : (b.cancel kind).armed kind = false := by
  refine List.any_eq_false.mpr fun d hd => ?_
  simpa using ((b.mem_cancel kind d).mp hd).2

theorem Block.timeLeft_cancel (e : Env) (b : Block) {kind other : DeadlineKind} (h : other ≠ kind) :
    (b.cancel kind).timeLeft e other = b.timeLeft e other := by
  have same : (b.cancel kind).deadlines.find? (fun d => d.kind == other) = b.deadlines.find? fun d => d.kind == other := by
    show (List.filter _ _).find? _ = _
    rw [List.find?_filter]
    congr 1
    funext d
    by_cases hd : d.kind = other
    · simp [hd, h]
    · simp [hd]
  unfold Block.timeLeft
  rw [same]

/-- Settles O14: the insertion is at one place (`insertDeadline_sorted`), and a cancellation is a filter. -/
theorem armingAndCancelling : Obligations.ArmingAndCancelling := by
  unfold Obligations.ArmingAndCancelling
  intro e b kind n hn
  refine ⟨fun sorted => ?_, rfl, b.timeLeft_arm e kind hn, rfl, b.armed_cancel kind, fun other h => b.timeLeft_cancel e h⟩
  have kept := (List.pairwise_map.mp sorted).filter fun d => d.kind != kind && some d.kind != kind.sibling
  obtain ⟨front, back, split, parts, before, after, order⟩ :=
    insertDeadline_sorted (d := { due := e.now + BitVec.ofNat 32 n, kind := kind }) kept
  rw [Deadline.remaining_fresh e.now kind hn] at before after
  exact ⟨front, back, split, parts, before, after, List.pairwise_map.mpr order⟩

/-! ## SET TIME -/

/-- A taken request that its rule answers. -/
theorem request_answered {q : Request} {f : Frame} {s u : State} {a : Answer} {body : State → Served} (h : Taken q f s)
    (hb : body (s.taken f) = some (u, a)) : request q f s body = .next (u.reply f q.kind a) := by
  rw [request_taken h, hb]

/-- A deadline that moves with the counter keeps its time remaining. -/
theorem remaining_move (now v : FarmSecond) (d : Deadline) :
    ({ d with due := d.due + (v - now) } : Deadline).remaining v = d.remaining now := by
  simp only [Deadline.remaining]
  congr 1
  bv_omega

/-- Settles O13. -/
theorem setTimeKeepsTimeRemaining : Obligations.SetTimeKeepsTimeRemaining := by
  unfold Obligations.SetTimeKeepsTimeRemaining
  intro f v s taken
  have answer : execSetTime f v s = .next (((s.taken f).setNow v).reply f Request.setTime.kind { code := .ok }) :=
    request_answered taken rfl
  refine ⟨_, answer, ?_, ?_⟩
  · have moved := answered_env_blk .setTime f { code := .ok } s { s.env with now := v }
      { s.blk with deadlines := s.blk.deadlines.map fun d => { d with due := d.due + (v - s.env.now) } }
    simpa [State.setNow] using moved
  · simp [State.setNow, remaining_move]

end Sys2Proof.Machine
end

section
/-! PROOF. The map and robot checks (R6, R183): what is refused, and that nothing else changes. -/

namespace Sys2Proof.Machine

open Sys2Proof

variable {s : State} {f : Frame} {q : Request} {c : Code}

/-- A taken request that its rule refuses is answered the code, and nothing else changes (R183). -/
theorem request_refused (h : Taken q f s) {body : State → Served} (hb : body (s.taken f) = (s.taken f).refuse c) :
    request q f s body = .next (answered q f { code := c } s) := request_answered h hb

theorem onRobot_outside {α : Type} {robot : Byte} (h : 24 ≤ robot.toNat) (no : Code → α) (yes : RobotId → α) :
    onRobot robot no yes = no .badRobot := by simp [onRobot, robotArg, Nat.not_lt.mpr h]

/-- Settles O8: each of the requests begins with the map check (`State.onRow`; for TRANSFER `destPresent`, which is the same
test), the robot check, or the one after the other. -/
theorem rowsAndRobotsOutOfTheMap : Obligations.RowsAndRobotsOutOfTheMap := by
  unfold Obligations.RowsAndRobotsOutOfTheMap
  constructor
  · intro c q f r s hc hq taken absent
    have row : ¬ ((s.taken f).env.row r).present = true := by simp [absent]
    obtain rfl | rfl | rfl | ⟨kc, rfl⟩ | rfl | rfl | rfl | rfl | rfl | ⟨k, rfl | rfl | rfl⟩ := hc
    all_goals
      cases hq
      unfold exec
      exact request_refused taken (if_neg row)
  · intro c q f robot s hc hq taken outside
    have number {x : RobotId → Served} : onRobot robot (s.taken f).refuse x = (s.taken f).refuse .badRobot :=
      onRobot_outside outside _ _
    obtain rfl | rfl | ⟨b, x, a, rfl⟩ | rfl | rfl | rfl | rfl | rfl | rfl | rfl | ⟨r, present, hc⟩ := hc
    on_goal 11 =>
      have row : ((s.taken f).env.row r).present = true := by simpa using present
      obtain rfl | rfl | rfl := hc
      all_goals
        cases hq
        unfold exec
        exact request_refused taken ((if_pos row).trans number)
    all_goals
      cases hq
      unfold exec
      exact request_refused taken number

end Sys2Proof.Machine
end

section
/-! PROOF. MAP BAY (R7 to R9, R177): its checks, the rows it loads, and the test of R177 where no robot is enrolled. -/

namespace Sys2Proof.Machine

open Sys2Proof

variable {s : State} {f : Frame} {e : Env} {b : Block}

/-! ## The test of R177 with no robot enrolled -/

theorem anyEnrolled_false (absent : ∀ k, (b.robot k).mode = .absent) : b.anyEnrolled = false :=
  Bool.eq_false_iff.mpr fun h =>
    let ⟨k, hk⟩ := (Block.anyEnrolled_iff b).mp h
    hk (absent k)

/-- CALM entry does nothing to robots that are not enrolled (R178). -/
theorem settles_calmRobots (absent : ∀ k, (b.robot k).mode = .absent) (ks : List RobotId) :
    Settles e (ks.map .calmRobot) b b := by
  induction ks with
  | nil => rfl
  | cons k ks ih =>
    have still : handle e (.calmRobot k) b = (b, []) := by simp [handle, calmRobot, Robot.enrolled, absent]
    rw [List.map_cons, Settles, still]
    exact ⟨fun _ => nofun, nofun, fun _ => nofun, rfl, ih⟩

/-- The block after the test of R177, with no robot enrolled. -/
def Block.calmIf (c : Bool) (b : Block) : Block := if c then b.setWeather .calm else b

theorem Block.calmIf_eq (c : Bool) (b : Block) :
    b.calmIf c =
      { b with rows := (b.calmIf c).rows, weather := (b.calmIf c).weather, weatherChanged := (b.calmIf c).weatherChanged } := by
  cases c <;> rfl

@[simp] theorem Block.calmIf_row (c : Bool) (b : Block) (r : RowId) : (b.calmIf c).row r = b.row r := by cases c <;> rfl

theorem finish_recoverTest (absent : ∀ k, (b.robot k).mode = .absent) :
    Handed.finish e (b, [.recoverTest]) = some (b.calmIf (b.recovered e)) := by
  by_cases hr : b.recovered e = true
  · have calm : cascade e 99999 none (.plans []) (allRobots.map .calmRobot) (b.setWeather .calm) = some (b.setWeather .calm) :=
      cascade_settles e _ _ _ _ _ (by simp [allRobots]) (.inl rfl) (settles_calmRobots (b := b.setWeather .calm) absent allRobots)
    have entry : recoverTest e b = b.enterCalm := if_pos hr
    rw [hr]
    unfold Handed.finish cascadeFuel cascade
    simp only [handle, entry, Block.enterCalm, List.append_nil]
    exact calm
  · have still : handle e .recoverTest b = (b, []) := if_neg hr
    rw [Bool.eq_false_iff.mpr hr]
    refine finish_settles (by decide) ?_
    rw [Settles, still]
    exact ⟨fun _ => nofun, nofun, fun _ => nofun, rfl, rfl⟩

theorem recovered_iff (absent : ∀ k, (b.robot k).mode = .absent) :
    b.recovered e = true ↔ b.weather = .recover ∧ b.level = .none
      ∧ ∀ r, (e.row r).present = true → (b.row r).tracker ≠ .stowed ∧ (b.row r).tracker ≠ .unstowWanted := by
  simp only [Block.recovered, Bool.and_eq_true, beq_iff_eq, List.all_eq_true, allRows, allRobots, List.mem_finRange, true_imp_iff,
    absent, Bool.not_eq_true', Bool.and_eq_false_imp, Bool.or_eq_false_iff, beq_eq_false_iff_ne, and_assoc]
  simp

/-! ## What MAP BAY loads (R8, R9) -/

theorem loadedData_eq (b : Block) (entries : Vector PlaceEntry 16) (r : RowId) :
    loadedData b entries r =
      let x := entries[r.val % 16]'(Nat.mod_lt _ (by decide))
      { present := x.present, cradle := x.present && x.cradle, shuttle := b.rangeShuttle r
        kc := min 6144 (max 2048 x.kc.toNat), ss := 0, es := 0, f := 0, fPre := 0, credit := 0
        lastCleaned := none, loss := 0, recovered := 0, saturated := false, holdSeconds := 0 } := by
  have kc (x : PlaceEntry) : kcStored x = min 6144 (max 2048 x.kc.toNat) := clamp_eq (by decide)
  unfold loadedData
  dsimp only
  rw [← kc]
  rfl

theorem loadedState_eq (b : Block) (entries : Vector PlaceEntry 16) (r : RowId) :
    loadedState b entries r =
      let x := entries[r.val % 16]'(Nat.mod_lt _ (by decide))
      { holder := none, occupant := none, reservation := none
        tracker := if x.present ∧ (b.weather = .park ∨ b.weather = .stow) then .stowReleased else .tracking
        faultNoted := false, locked := none, overstay := false, stranded := false, restart := false
        resumeWanted := false, reservedBy := none, cls := 0 } := by
  have entry : bayEntry entries r = entries[r.val % 16]'(Nat.mod_lt _ (by decide)) := rfl
  unfold loadedState
  rw [entry]
  by_cases h : (entries[r.val % 16]'(Nat.mod_lt _ (by decide))).present = true ∧ (b.weather = .park ∨ b.weather = .stow)
  · simp only [Block.storm_iff, Bool.and_eq_true, h, and_self, if_true]
    rfl
  · simp only [Block.storm_iff, Bool.and_eq_true, and_comm (b := _ = true), h, if_false]
    rfl

theorem loadBay_env_row (bay : Bay) (entries : Vector PlaceEntry 16) (r : RowId) :
    (s.loadBay bay entries).env.row r = if r.val / 16 = bay.val then loadedData s.blk entries r else s.env.row r :=
  Env.row_mapAll s.env _ r

theorem loadBay_blk_row (bay : Bay) (entries : Vector PlaceEntry 16) (r : RowId) :
    (s.loadBay bay entries).blk.row r = if r.val / 16 = bay.val then loadedState s.blk entries r else s.blk.row r :=
  s.blk.row_mapRows _ r

theorem bayCounts_eq (entries : Vector PlaceEntry 16) :
    bayCounts entries =
      [BitVec.ofNat 8 (entries.toList.countP fun x => x.present),
        BitVec.ofNat 8 (entries.toList.countP fun x => x.kc.toNat < 2048 || 6144 < x.kc.toNat)] := by
  have clamped (x : PlaceEntry) : (kcStored x != x.kc.toNat) = (decide (x.kc.toNat < 2048) || decide (6144 < x.kc.toNat)) := by
    unfold kcStored
    rw [clamp_eq (by decide), Bool.eq_iff_iff]
    simp only [bne_iff_ne, Bool.or_eq_true, decide_eq_true_eq]
    omega
  unfold bayCounts byteOf
  simp only [clamped, List.countP_eq_length_filter]

/-- An accepted MAP BAY. -/
theorem execMapBay_accepted {bay : Byte} {entries : Vector PlaceEntry 16} {p : Bay} (taken : Taken .mapBay f s)
    (hp : bayArg bay = some p) (absent : ∀ k, (s.blk.robot k).mode = .absent) :
    execMapBay f bay entries s = .next
      { answered .mapBay f { code := .ok, payload := bayCounts entries } s with
        mapLoaded := true, env := (s.loadBay p entries).env
        blk := (s.loadBay p entries).blk.calmIf ((s.loadBay p entries).blk.recovered (s.loadBay p entries).env) } := by
  have served : execMapBay f bay entries s = .next ((({ (s.taken f).loadBay p entries with
      blk := (s.loadBay p entries).blk.calmIf ((s.loadBay p entries).blk.recovered (s.loadBay p entries).env) } : State)).reply
        f Request.mapBay.kind { code := .ok, payload := bayCounts entries }) := by
    refine request_answered taken ?_
    have free : (s.taken f).blk.anyEnrolled = false := by simpa using anyEnrolled_false absent
    have same : ((s.taken f).loadBay p entries).blk = (s.loadBay p entries).blk
      ∧ ((s.taken f).loadBay p entries).env = (s.loadBay p entries).env := by simp [State.loadBay]
    simp only [hp, free, State.serve, same, finish_recoverTest (b := (s.loadBay p entries).blk) absent, Option.map_some]
    simp
  rw [served]
  unfold answered State.reply State.loadBay
  cases f.port <;> simp [State.modPort]

/-- Settles O11. -/
theorem mapBayLoads : Obligations.MapBayLoads := by
  unfold Obligations.MapBayLoads
  intro f bay entries s taken
  unfold exec
  refine ⟨fun outside => ?_, fun inside enrolled => ?_, fun inside absent => ?_⟩
  · refine request_refused taken ?_
    simp [bayArg, Nat.not_lt.mpr outside]
  · refine request_refused taken ?_
    have some : s.blk.anyEnrolled = true := (Block.anyEnrolled_iff s.blk).mpr enrolled
    simp [bayArg, inside, some]
  · have hp : bayArg bay = some ⟨bay.toNat, inside⟩ := dif_pos inside
    have envRow := loadBay_env_row (s := s) ⟨bay.toNat, inside⟩ entries
    have blkRow := loadBay_blk_row (s := s) ⟨bay.toNat, inside⟩ entries
    have left := recovered_iff (e := (s.loadBay ⟨bay.toNat, inside⟩ entries).env)
      (b := (s.loadBay ⟨bay.toNat, inside⟩ entries).blk) absent
    refine ⟨_, execMapBay_accepted taken hp absent, fun r hr => ⟨?_, ?_⟩, fun r hr => ⟨?_, ?_⟩, ?_, ?_⟩
    · exact (envRow r).trans ((if_pos hr).trans (loadedData_eq _ _ _))
    · exact (Block.calmIf_row _ _ r).trans ((blkRow r).trans ((if_pos hr).trans (loadedState_eq _ _ _)))
    · exact (envRow r).trans (if_neg hr)
    · exact (Block.calmIf_row _ _ r).trans ((blkRow r).trans (if_neg hr))
    · rw [bayCounts_eq]
      dsimp only
      congr 1
      exact Block.calmIf_eq _ _
    · dsimp only
      simp only [Block.calmIf_row]
      refine ⟨fun hl => ?_, fun hl => ?_⟩
      · rw [left.mpr hl]
        exact ⟨rfl, rfl⟩
      · rw [Bool.eq_false_iff.mpr (mt left.mp hl)]
        exact ⟨rfl, rfl⟩

end Sys2Proof.Machine
end

section
/-! PROOF. SET SHUTTLE (R3, R11, R12, R84, R86): its checks, the shuttle it leaves and the rows derived anew. -/

namespace Sys2Proof.Machine

open Sys2Proof

variable {s : State} {f : Frame} {b : Block} {u : ShuttleId} {shuttle first last : Byte} {given : Option (Bay × Bay)}

/-! ## Arguments (R11) -/

theorem shuttleArg_outside (h : 4 ≤ shuttle.toNat) : shuttleArg shuttle = none := dif_neg (Nat.not_lt.mpr h)

theorem shuttleArg_inside (h : shuttle.toNat = u.val) : shuttleArg shuttle = some u :=
  (dif_pos (h ▸ u.isLt)).trans (congrArg some (Fin.ext h))

theorem bayArg_inside {bay : Byte} (h : bay.toNat < 16) : bayArg bay = some (Fin.ofNat 16 bay.toNat) :=
  (dif_pos h).trans (congrArg some (Fin.ext (Nat.mod_eq_of_lt h).symm))

theorem rangeArg_run (h : first.toNat ≤ last.toNat ∧ last.toNat < 16) :
    rangeArg first last = some (some (Fin.ofNat 16 first.toNat, Fin.ofNat 16 last.toNat)) := by
  have some : ¬ (first = 0xFF ∧ last = 0xFF) := fun hn => by rw [hn.2] at h; exact absurd h.2 (by decide)
  have order : Fin.ofNat 16 first.toNat ≤ Fin.ofNat 16 last.toNat := by
    rw [Fin.le_def, Fin.val_ofNat, Fin.val_ofNat, Nat.mod_eq_of_lt h.2, Nat.mod_eq_of_lt (h.1.trans_lt h.2)]
    exact h.1
  simp only [rangeArg, if_neg some, bayArg_inside h.2, bayArg_inside (h.1.trans_lt h.2), if_pos order]

theorem rangeArg_neither (h : ¬ ((first = 0xFF ∧ last = 0xFF) ∨ (first.toNat ≤ last.toNat ∧ last.toNat < 16))) :
    rangeArg first last = none := by
  obtain ⟨some, run⟩ := not_or.mp h
  unfold rangeArg
  rw [if_neg some]
  by_cases hl : last.toNat < 16
  · by_cases hf : first.toNat < 16
    · rw [bayArg_inside hl, bayArg_inside hf]
      have order : ¬ Fin.ofNat 16 first.toNat ≤ Fin.ofNat 16 last.toNat := by
        rw [Fin.le_def, Fin.val_ofNat, Fin.val_ofNat, Nat.mod_eq_of_lt hl, Nat.mod_eq_of_lt hf]
        exact fun ho => run ⟨ho, hl⟩
      exact if_neg order
    · rw [show bayArg first = none from dif_neg hf]
  · rw [show bayArg last = none from dif_neg hl]
    split
    · next hn => cases hn
    · rfl

theorem rangeTaken_iff :
    b.rangeTaken u given = true ↔
      ∃ v lo hi x y, v ≠ u ∧ given = some (x, y) ∧ (b.shuttle v).range = some (lo, hi) ∧ x ≤ hi ∧ lo ≤ y := by
  simp only [Block.rangeTaken, List.any_eq_true, allShuttles, List.mem_finRange, true_and, Bool.and_eq_true, bne_iff_ne]
  refine exists_congr fun v => ?_
  rcases given with _ | ⟨x, y⟩ <;> rcases hr : (b.shuttle v).range with _ | ⟨lo, hi⟩ <;> simp [rangesMeet]

/-! ## The shuttle (R12) -/

theorem makeLocal_eq (b : Block) (u : ShuttleId) :
    b.makeLocal u =
      { b.modShuttle u (fun x =>
          { x with mode := .localUnknown, cause := none, position := none, pollDue := none, commandSent := false }) with
        link := { b.link with
          queue := if b.link.enabled then b.link.queue.set u (some { op := .status, counts := false }) else b.link.queue
          inFlight := b.link.inFlight.map fun x => if x.shuttle = u then { x with discard := true } else x } } := by
  rw [Block.makeLocal, Block.placeStatus, Block.placeLink_eq, Block.discardFlight_eq]
  have still : ((b.modShuttle u fun x =>
      { x with mode := .localUnknown, cause := none, position := none, pollDue := none, commandSent := false }).shuttle
        u).stepping = false := by simp [Shuttle.stepping]
  simp only [Block.shuttle] at still ⊢
  rw [still]
  rfl

theorem makeLocal_madeLocal (b : Block) (u : ShuttleId) : MadeLocal u b (b.makeLocal u) := by
  rw [makeLocal_eq]
  refine ⟨rfl, ?_, fun v hv => ?_, rfl⟩
  · exact (Block.shuttle_modShuttle b u _ u).trans (if_pos rfl)
  · exact (Block.shuttle_modShuttle b u _ v).trans (if_neg (Ne.symm hv))

theorem makeOffline_eq (b : Block) (u : ShuttleId) :
    b.makeOffline u =
      { b.modShuttle u (fun x =>
          { x with mode := .offline, position := none, pollDue := none, cause := none, commandSent := false }) with
        link := { b.link with
          queue := b.link.queue.set u none
          inFlight := b.link.inFlight.map fun x => if x.shuttle = u then { x with discard := true } else x } } := by
  rw [Block.makeOffline, Block.discardFlight_eq]
  rfl

/-! ## The rows (R3) -/

theorem rangeShuttle_congr {c : Block} (h : ∀ v, (c.shuttle v).range = (b.shuttle v).range) (r : RowId) :
    c.rangeShuttle r = b.rangeShuttle r := by
  unfold Block.rangeShuttle
  simp only [h]

/-- The block of a row derives the one shuttle whose range holds it. -/
theorem rangeShuttle_eq {r : RowId} (own : inRange r (b.shuttle u).range = true)
    (other : ∀ v, v ≠ u → inRange r (b.shuttle v).range = false) : b.rangeShuttle r = some u := by
  have same : b.rangeShuttle r = allShuttles.find? fun v => inRange r (b.shuttle v).range := rfl
  rw [same]
  cases hf : allShuttles.find? fun v => inRange r (b.shuttle v).range with
  | none => exact absurd own (List.find?_eq_none.mp hf u (List.mem_finRange u))
  | some v =>
    by_contra hv
    have := List.find?_some hf
    simp [other v fun h => hv (h ▸ rfl)] at this

theorem setRange_range (s : State) (u v : ShuttleId) (given : Option (Bay × Bay)) :
    ((s.setRange u given).blk.shuttle v).range = if u = v then given else (s.blk.shuttle v).range := by
  have kept (g : Shuttle → Shuttle) (hg : ∀ x, (g x).range = x.range) :
      ((((s.blk.modShuttle u fun x => { x with range := given }).modShuttle u g).shuttle v)).range
        = if u = v then given else (s.blk.shuttle v).range := by
    rw [Block.shuttle_modShuttle, Block.shuttle_modShuttle, Block.shuttle_modShuttle]
    split
    · rw [if_pos rfl, hg]
    · rfl
  unfold State.setRange
  dsimp only
  split
  · rw [makeLocal_eq]
    exact kept _ fun _ => rfl
  · rw [makeOffline_eq]
    exact kept _ fun _ => rfl

theorem setRange_env_row (s : State) (u : ShuttleId) (given : Option (Bay × Bay)) (r : RowId) :
    (s.setRange u given).env.row r = { s.env.row r with
      shuttle := if inRange r (s.blk.shuttle u).range || inRange r given then (s.setRange u given).blk.rangeShuttle r
        else (s.env.row r).shuttle } := by
  have ranges : (s.setRange u given).blk.rangeShuttle r
      = (s.blk.modShuttle u fun x => { x with range := given }).rangeShuttle r := by
    refine rangeShuttle_congr (fun v => ?_) r
    rw [setRange_range, Block.shuttle_modShuttle]
    split <;> rfl
  rw [ranges]
  refine (Env.row_mapAll s.env _ r).trans ?_
  split <;> rfl

/-- An accepted SET SHUTTLE. -/
theorem execSetShuttle_accepted (taken : Taken .setShuttle f s) (hu : shuttleArg shuttle = some u)
    (hg : rangeArg first last = some given) (absent : ∀ k, (s.blk.robot k).mode = .absent)
    (free : s.blk.rangeTaken u given = false) :
    execSetShuttle f shuttle first last s = .next
      { answered .setShuttle f { code := .ok } s with
        env := (s.setRange u given).env, blk := (s.setRange u given).blk } := by
  have served : execSetShuttle f shuttle first last s
      = .next (((s.taken f).setRange u given).reply f Request.setShuttle.kind { code := .ok }) := by
    refine request_answered taken ?_
    have empty : s.blk.anyEnrolled = false := anyEnrolled_false absent
    simp [hu, hg, empty, free]
  rw [served]
  unfold answered State.reply State.setRange
  cases f.port <;> simp [State.modPort]

/-- The number of a bay argument. -/
theorem bay_val {bay : Byte} (h : bay.toNat < 16) : (Fin.ofNat 16 bay.toNat).val = bay.toNat := Nat.mod_eq_of_lt h

/-- The third check of R11, of a run of bays. -/
theorem rangeTaken_run (run : first.toNat ≤ last.toNat ∧ last.toNat < 16) :
    b.rangeTaken u (some (Fin.ofNat 16 first.toNat, Fin.ofNat 16 last.toNat)) = true ↔
      ∃ v lo hi, v ≠ u ∧ (b.shuttle v).range = some (lo, hi) ∧ first.toNat ≤ hi.val ∧ lo.val ≤ last.toNat := by
  rw [rangeTaken_iff]
  constructor
  · rintro ⟨v, lo, hi, x, y, hv, h, range, above, below⟩
    cases h
    rw [Fin.le_def, bay_val (run.1.trans_lt run.2)] at above
    rw [Fin.le_def, bay_val run.2] at below
    exact ⟨v, lo, hi, hv, range, above, below⟩
  · rintro ⟨v, lo, hi, hv, range, above, below⟩
    refine ⟨v, lo, hi, _, _, hv, rfl, range, Fin.le_def.mpr ?_, Fin.le_def.mpr ?_⟩
    · rwa [bay_val (run.1.trans_lt run.2)]
    · rwa [bay_val run.2]

/-- What SET SHUTTLE leaves where no other shuttle's range shares a bay with the range given. -/
theorem setRange_rows (free : s.blk.rangeTaken u given = false) (r : RowId) :
    (s.setRange u given).env.row r = { s.env.row r with
        shuttle := if inRange r (s.blk.shuttle u).range || inRange r ((s.setRange u given).blk.shuttle u).range
          then (s.setRange u given).blk.rangeShuttle r else (s.env.row r).shuttle }
      ∧ (inRange r ((s.setRange u given).blk.shuttle u).range = true →
          (s.setRange u given).blk.rangeShuttle r = some u) := by
  refine ⟨?_, fun own => rangeShuttle_eq own fun v hv => ?_⟩
  · rw [setRange_env_row, setRange_range, if_pos rfl]
  · rw [setRange_range, if_pos rfl] at own
    rw [setRange_range, if_neg (Ne.symm hv)]
    rcases given with _ | ⟨x, y⟩
    · cases own
    · by_contra other
      rcases hr : (s.blk.shuttle v).range with _ | ⟨lo, hi⟩
      · rw [hr] at other; exact other rfl
      · rw [hr] at other
        simp only [inRange, Bool.not_eq_false, decide_eq_true_eq] at own other
        exact Bool.eq_false_iff.mp free (rangeTaken_iff.mpr ⟨v, lo, hi, x, y, hv, rfl, hr,
          Fin.le_def.mpr (by omega), Fin.le_def.mpr (by omega)⟩)

/-- Settles O12. -/
theorem setShuttleGivesTheRange : Obligations.SetShuttleGivesTheRange := by
  unfold Obligations.SetShuttleGivesTheRange
  intro f shuttle first last s taken
  unfold exec
  dsimp only
  refine ⟨fun bad => request_refused taken ?_, fun u hu args => ⟨fun enrolled => request_refused taken ?_,
    fun absent run shared => request_refused taken ?_, fun absent apart => ?_⟩⟩
  · obtain h | h := bad
    · rw [shuttleArg_outside h]
    · rw [rangeArg_neither h]
      cases shuttleArg shuttle <;> rfl
  · obtain ⟨given, hg⟩ : ∃ given, rangeArg first last = some given :=
      args.elim (fun h => ⟨none, if_pos h⟩) fun h => ⟨_, rangeArg_run h⟩
    have some : s.blk.anyEnrolled = true := (Block.anyEnrolled_iff s.blk).mpr enrolled
    simp [shuttleArg_inside hu, hg, some]
  · have shares := (rangeTaken_run run).mpr shared
    have hg := rangeArg_run run
    have empty : s.blk.anyEnrolled = false := anyEnrolled_false absent
    generalize some (Fin.ofNat 16 first.toNat, Fin.ofNat 16 last.toNat) = given at shares hg
    simp [shuttleArg_inside hu, hg, empty, shares]
  · obtain none' | run := args
    · have hg : rangeArg first last = some none := if_pos none'
      have free : s.blk.rangeTaken u none = false := by
        refine Bool.eq_false_iff.mpr fun h => ?_
        obtain ⟨v, lo, hi, x, y, -, h, -⟩ := rangeTaken_iff.mp h
        cases h
      refine ⟨_, execSetShuttle_accepted taken (shuttleArg_inside hu) hg absent free, rfl, setRange_rows free,
        fun run => ?_, fun _ => ?_⟩
      · rw [none'.2] at run
        exact absurd run.2 (by decide)
      · refine (makeOffline_eq _ u).trans ?_
        rw [Block.modShuttle_modShuttle]
        rfl
    · have ranged : ¬ (first = 0xFF ∧ last = 0xFF) := fun h => by
        rw [h.2] at run
        exact absurd run.2 (by decide)
      have free : s.blk.rangeTaken u (some (Fin.ofNat 16 first.toNat, Fin.ofNat 16 last.toNat)) = false := by
        refine Bool.eq_false_iff.mpr fun h => ?_
        obtain ⟨v, lo, hi, hv, range, above, below⟩ := (rangeTaken_run run).mp h
        obtain h | h | h := apart v lo hi hv range
        · exact ranged h
        · omega
        · omega
      exact ⟨_, execSetShuttle_accepted taken (shuttleArg_inside hu) (rangeArg_run run) absent free, rfl, setRange_rows free,
        fun _ => makeLocal_madeLocal _ u, fun h => absurd h ranged⟩

end Sys2Proof.Machine
end

section
/-! PROOF. FETCH ORDERS (R47, R48), and what a request of a robot in range asks of its rule. -/

namespace Sys2Proof.Machine

open Sys2Proof

variable {s : State} {f : Frame} {b : Block} {k : RobotId}

theorem onRobot_inside {α : Type} {robot : Byte} (h : robot.toNat = k.val) (no : Code → α) (yes : RobotId → α) :
    onRobot robot no yes = yes k := by
  have arg : robotArg robot = some k := (dif_pos (h ▸ k.isLt)).trans (congrArg some (Fin.ext h))
  simp only [onRobot, arg]

/-- A taken request whose rule changes the block alone. -/
theorem request_served {q : Request} {a : Answer} {body : State → Served} (h : Taken q f s)
    (hb : body (s.taken f) = some ({ s.taken f with blk := b }, a)) :
    request q f s body = .next { answered q f a s with blk := b } := by
  rw [request_answered h hb, answered_blk]

theorem Robot.wanted_iff (x : Robot) : x.wanted = true ↔ x.mode ≠ .absent ∧ (x.order ≠ .none ∨ x.outcome ≠ .none) := by
  simp [Robot.wanted, Robot.enrolled]

theorem mem_fleetAttention : k ∈ fleetAttention b ↔ (b.robot k).wanted = true := by
  simp [fleetAttention, allRobots]

theorem fleetAttention_ascending (b : Block) : (fleetAttention b).Pairwise (· < ·) :=
  (List.pairwise_lt_finRange 24).filter _

theorem takeOutcomes_robot (b : Block) (k : RobotId) :
    b.takeOutcomes.robot k = if k ∈ fleetAttention b then { b.robot k with outcome := .none } else b.robot k := by
  rw [Block.takeOutcomes, Block.robot_mapRobots]
  simp only [mem_fleetAttention]

/-- Settles O26: the reply lists the fleet attention set (`mem_fleetAttention`), and a robot keeps its place in the set by its
order alone once its outcome is taken. -/
theorem fetchOrdersLists : Obligations.FetchOrdersLists := by
  unfold Obligations.FetchOrdersLists
  intro f s taken
  have served : exec (.fetchOrders f) s = .next
      { answered .fetchOrders f { code := .ok, payload := orderBytes s.blk } s with blk := s.blk.takeOutcomes } := by
    unfold exec
    exact request_served taken (by simp only [State.taken_blk])
  refine ⟨_, fleetAttention s.blk, fleetAttention_ascending s.blk, fun k => ?_, served, rfl, takeOutcomes_robot s.blk, fun k => ?_⟩
  · rw [mem_fleetAttention, Robot.wanted_iff]
  · dsimp only
    rw [takeOutcomes_robot]
    split
    · simp
    · next unlisted =>
      rw [mem_fleetAttention, Robot.wanted_iff] at unlisted
      tauto

end Sys2Proof.Machine
end

section
/-! PROOF. FLEET RESET (R60, R61, R86, R177): the shuttles made LOCAL one after another, the rows unclaimed, and the test of
R177, which no robot is left to hold back. -/

namespace Sys2Proof.Machine

open Sys2Proof

variable {s : State} {f : Frame} {e : Env} {b : Block}

/-! ## The test of R177 with no robot enrolled -/

theorem Block.calmIf_frame (c : Bool) (b : Block) :
    b.calmIf c = { b with weather := (b.calmIf c).weather, weatherChanged := (b.calmIf c).weatherChanged } := by cases c <;> rfl

theorem Block.calmIf_robot (c : Bool) (b : Block) (k : RobotId) : (b.calmIf c).robot k = b.robot k := by cases c <;> rfl
theorem Block.calmIf_shuttle (c : Bool) (b : Block) (u : ShuttleId) : (b.calmIf c).shuttle u = b.shuttle u := by cases c <;> rfl
theorem Block.calmIf_link (c : Bool) (b : Block) : (b.calmIf c).link = b.link := by cases c <;> rfl
theorem Block.calmIf_deadlines (c : Bool) (b : Block) : (b.calmIf c).deadlines = b.deadlines := by cases c <;> rfl

/-! ## Shuttles made LOCAL (R64, R86) -/

/-- The record of a shuttle that a request makes LOCAL (R64). -/
def Shuttle.localised (x : Shuttle) : Shuttle :=
  { x with mode := .localUnknown, cause := none, position := none, pollDue := none, commandSent := false }

/-- From `b` to `c` the shuttles that `which` picks are made LOCAL, and nothing else changes. -/
structure AllLocal (which : ShuttleId → Prop) [DecidablePred which] (b c : Block) : Prop where
  frame : c = { b with shuttles := c.shuttles, link := c.link }
  shuttle : ∀ u, c.shuttle u = if which u then (b.shuttle u).localised else b.shuttle u
  queue : ∀ u : ShuttleId, c.link.queue[u] =
    if b.link.enabled = true ∧ which u then some { op := .status, counts := false } else b.link.queue[u]
  enabled : c.link.enabled = b.link.enabled
  lastServed : c.link.lastServed = b.link.lastServed
  inFlight : c.link.inFlight = b.link.inFlight.map fun x => if which x.shuttle then { x with discard := true } else x

theorem allLocal_foldl (us : List ShuttleId) (b : Block) : AllLocal (· ∈ us) b (us.foldl (fun c u => c.makeLocal u) b) := by
  induction us generalizing b with
  | nil => exact ⟨rfl, by simp, by simp, rfl, rfl, by simp⟩
  | cons u us ih =>
    obtain ⟨frame, own, others, link⟩ := makeLocal_madeLocal b u
    have rest := ih (b.makeLocal u)
    rw [List.foldl_cons]
    generalize us.foldl (fun c u => c.makeLocal u) (b.makeLocal u) = d at rest
    generalize b.makeLocal u = c at frame own others link rest
    refine ⟨?_, fun v => ?_, fun v => ?_, ?_, ?_, ?_⟩
    · rw [rest.frame, frame]
    · rw [rest.shuttle]
      by_cases hv : v = u
      · subst hv
        rw [own, if_pos List.mem_cons_self]
        split <;> rfl
      · rw [others v hv]
        simp only [List.mem_cons, hv, false_or]
    · rw [rest.queue, link]
      by_cases on : b.link.enabled = true
      · by_cases hv : v = u
        · subst hv
          simp [on]
        · simp [on, hv, Fin.val_ne_of_ne (Ne.symm hv)]
      · simp [on]
    · rw [rest.enabled, link]
    · rw [rest.lastServed, link]
    · rw [rest.inFlight, link, Option.map_map]
      congr 1
      funext x
      simp only [Function.comp_apply, List.mem_cons]
      by_cases hx : x.shuttle = u
      · simp [hx]
      · simp [hx]

/-! ## The block (R60) -/

/-- FLEET RESET before its shuttles are made LOCAL: the fleet's records, its claims and its deadlines are dropped. -/
def Block.dropFleet (e : Env) (b : Block) : Block :=
  { b with
    rows := mapAll b.rows fun r x => if (e.row r).present then x.fleetReset b.weather else x
    robots := Vector.replicate 24 Robot.fresh
    shuttles := mapAll b.shuttles fun _ x => { x with queue := [], current := none, load := none }
    link := { b.link with queue := Vector.replicate 4 none }
    deadlines := b.deadlines.filter fun d => !d.kind.fleetKey }

theorem Block.dropFleet_shuttle (e : Env) (b : Block) (u : ShuttleId) :
    (b.dropFleet e).shuttle u = { b.shuttle u with queue := [], current := none, load := none } := mapAll_get b.shuttles _ u

theorem fleetReset_local (e : Env) (b : Block) :
    AllLocal (fun u => (b.shuttle u).range.isSome = true) (b.dropFleet e) (b.fleetReset e) := by
  obtain ⟨frame, shuttle, queue, enabled, lastServed, inFlight⟩ :=
    allLocal_foldl (allShuttles.filter fun u => (b.shuttle u).range.isSome) (b.dropFleet e)
  have ranged (u : ShuttleId) :
      u ∈ (allShuttles.filter fun u => (b.shuttle u).range.isSome) ↔ (b.shuttle u).range.isSome = true := by
    simp [allShuttles]
  simp only [ranged] at shuttle queue inFlight
  exact ⟨frame, shuttle, queue, enabled, lastServed, inFlight⟩

theorem fleetReset_frame (e : Env) (b : Block) :
    b.fleetReset e = { b with
      rows := (b.fleetReset e).rows, robots := (b.fleetReset e).robots, shuttles := (b.fleetReset e).shuttles
      link := (b.fleetReset e).link, deadlines := (b.fleetReset e).deadlines } := by
  rw [(fleetReset_local e b).frame]
  rfl

theorem Block.fleetReset_row (e : Env) (b : Block) (r : RowId) :
    (b.fleetReset e).row r = if (e.row r).present then (b.row r).fleetReset b.weather else b.row r := by
  rw [(fleetReset_local e b).frame]
  exact mapAll_get b.rows _ r

theorem fleetReset_robot (e : Env) (b : Block) (k : RobotId) : (b.fleetReset e).robot k = Robot.fresh := by
  rw [(fleetReset_local e b).frame]
  exact Vector.getElem_replicate ..

theorem fleetReset_deadlines (e : Env) (b : Block) :
    (b.fleetReset e).deadlines = b.deadlines.filter fun d => d.kind == .parkDeadline || d.kind == .calmHoldoff := by
  rw [(fleetReset_local e b).frame]
  refine List.filter_congr fun d _ => ?_
  cases d.kind <;> rfl

/-! ## The rows (R61) -/

theorem RowState.claimed_iff (x : RowState) : x.claimed = true ↔ x.holder ≠ none ∨ x.occupant ≠ none := by
  simp [RowState.claimed, Option.isSome_iff_ne_none]

/-- The tracker part of a FLEET RESET writes the tracker state, its notices and the class only. -/
theorem RowState.resetTracker_frame (w : Weather) (y : RowState) :
    y.resetTracker w = { y with
      tracker := (y.resetTracker w).tracker, faultNoted := (y.resetTracker w).faultNoted
      resumeWanted := (y.resetTracker w).resumeWanted, cls := (y.resetTracker w).cls } := by
  unfold RowState.resetTracker
  split
  · unfold RowState.toReturn
    split
    · rfl
    · split <;> rfl
  iterate 3
    split
    · rfl
    · split
      · unfold RowState.toResume
        split <;> rfl
      · rfl
  all_goals rfl

theorem RowState.resetTracker_still {w : Weather} {y : RowState}
    (h : y.tracker = .tracking ∨ y.tracker = .held ∨ y.tracker = .faulted) : y.resetTracker w = y := by
  obtain h | h | h := h <;> simp only [RowState.resetTracker, h]

theorem RowState.resetTracker_pending {w : Weather} {y : RowState} (h : y.tracker = .holdPending) :
    y.resetTracker w = y.toReturn w := by simp only [RowState.resetTracker, h]

theorem RowState.resetTracker_released {w : Weather} {y : RowState}
    (h : y.tracker = .stowReleased ∨ y.tracker = .stowed ∨ y.tracker = .unstowWanted) :
    y.resetTracker w =
      if y.faultNoted then { y with tracker := .faulted, faultNoted := false, cls := 0 }
      else if w = .recover then y.toResume else y := by
  obtain h | h | h := h <;> simp only [RowState.resetTracker, h]

/-- The class of a row stands, but for a row that the end of its hold leaves FAULTED (R26, R60). -/
theorem RowState.resetTracker_cls (w : Weather) (y : RowState) :
    (y.resetTracker w).cls = if y.tracker ≠ .faulted ∧ (y.resetTracker w).tracker = .faulted then 0 else y.cls := by
  cases h : y.tracker
  case tracking | held | faulted =>
    rw [RowState.resetTracker_still (by simp [h])]
    simp [h]
  case holdPending =>
    rw [RowState.resetTracker_pending h]
    unfold RowState.toReturn
    split
    · simp
    · split <;> simp
  case stowReleased | stowed | unstowWanted =>
    rw [RowState.resetTracker_released (by simp [h])]
    split
    · simp
    · split
      · unfold RowState.toResume
        split <;> simp [h]
      · simp [h]

/-- FLEET RESET locks a row that had a holder or an occupant, in class 0, after the end of its hold (R60, R61). -/
theorem RowState.fleetReset_eq (w : Weather) (x : RowState) :
    x.fleetReset w = { x.unclaim.resetTracker w with
      locked := if x.claimed then some .fleetReset else x.locked
      cls := if x.claimed then 0 else (x.unclaim.resetTracker w).cls } := by
  unfold RowState.fleetReset
  dsimp only
  split
  · rfl
  · rw [RowState.resetTracker_frame]
    rfl

/-- A fleet reset row's tracker state and its notices are those of the end of its hold (R61). -/
theorem RowState.fleetReset_tracker (w : Weather) (x : RowState) :
    (x.fleetReset w).tracker = (x.unclaim.resetTracker w).tracker
      ∧ (x.fleetReset w).faultNoted = (x.unclaim.resetTracker w).faultNoted
      ∧ (x.fleetReset w).resumeWanted = (x.unclaim.resetTracker w).resumeWanted := by
  rw [RowState.fleetReset_eq]
  exact ⟨rfl, rfl, rfl⟩

/-- What FLEET RESET leaves of a row's claims, marks and class (R60, R61). -/
theorem RowState.fleetReset_marks (w : Weather) (x : RowState) :
    let y := x.fleetReset w
    y.holder = none ∧ y.occupant = none ∧ y.reservation = none ∧ y.reservedBy = none ∧ y.restart = x.restart
      ∧ (y.overstay = true ↔ x.overstay = true ∧ x.holder = none) ∧ (y.stranded = true ↔ x.stranded = true ∧ x.holder = none)
      ∧ (x.claimed = true → y.locked = some .fleetReset ∧ y.cls = 0)
      ∧ (¬ x.claimed = true →
          y.locked = x.locked ∧ y.cls = if x.tracker ≠ .faulted ∧ y.tracker = .faulted then 0 else x.cls) := by
  have cls := RowState.resetTracker_cls w x.unclaim
  dsimp only
  rw [RowState.fleetReset_eq, RowState.resetTracker_frame]
  refine ⟨rfl, rfl, rfl, rfl, rfl, ?_, ?_, fun claimed => ?_, fun free => ?_⟩
  · simp [RowState.unclaim]
  · simp [RowState.unclaim]
  · rw [if_pos claimed]
    exact ⟨rfl, if_pos claimed⟩
  · rw [if_neg free]
    exact ⟨rfl, (if_neg free).trans cls⟩

/-- FLEET RESET of a row whose hold is pending (R26, R61). -/
theorem RowState.fleetReset_pending {w : Weather} {x : RowState} (h : x.tracker = .holdPending) (fine : x.faultNoted = false) :
    if w = .park ∨ w = .stow then (x.fleetReset w).tracker = .stowReleased
    else (x.fleetReset w).tracker = .tracking ∧ (x.fleetReset w).resumeWanted = true := by
  obtain ⟨tracker, -, resume⟩ := RowState.fleetReset_tracker w x
  have pending : x.unclaim.tracker = .holdPending := h
  have noted : ¬ x.unclaim.faultNoted = true := by simp [RowState.unclaim, fine]
  rw [tracker, resume, RowState.resetTracker_pending pending]
  unfold RowState.toReturn
  rw [if_neg noted]
  cases w <;> simp

/-- FLEET RESET of a row released for stow, stowed or to be unstowed (R61). -/
theorem RowState.fleetReset_released {w : Weather} {x : RowState}
    (h : x.tracker = .stowReleased ∨ x.tracker = .stowed ∨ x.tracker = .unstowWanted) :
    (x.faultNoted = true →
        (x.fleetReset w).tracker = .faulted ∧ (x.fleetReset w).faultNoted = false ∧ (x.fleetReset w).cls = 0)
      ∧ (x.faultNoted = false → x.tracker = .stowReleased → w = .recover →
          (x.fleetReset w).tracker = .tracking ∧ (x.fleetReset w).resumeWanted = true)
      ∧ (x.faultNoted = false → (x.tracker ≠ .stowReleased ∨ w ≠ .recover) → (x.fleetReset w).tracker = x.tracker) := by
  have split := RowState.resetTracker_released (w := w) (y := x.unclaim) h
  rw [RowState.fleetReset_eq, split]
  refine ⟨fun noted => ?_, fun fine released hw => ?_, fun fine other => ?_⟩
  · rw [if_pos (show x.unclaim.faultNoted = true from noted)]
    exact ⟨rfl, rfl, ite_self 0⟩
  · rw [if_neg (show ¬ x.unclaim.faultNoted = true by simp [RowState.unclaim, fine]), if_pos hw, RowState.toResume,
      if_pos ⟨released, rfl⟩]
    exact ⟨rfl, rfl⟩
  · rw [if_neg (show ¬ x.unclaim.faultNoted = true by simp [RowState.unclaim, fine])]
    dsimp only
    split
    · next hw =>
      rw [RowState.toResume, if_neg fun hr => other.elim (· hr.1) (· hw)]
      rfl
    · rfl

/-- Settles O27: the block by `fleetReset_local`, a row by the lemmas of `RowState.fleetReset`, and the test of R177 by
`finish_recoverTest`, no robot being enrolled. -/
theorem fleetResetDropsTheFleet : Obligations.FleetResetDropsTheFleet := by
  unfold Obligations.FleetResetDropsTheFleet
  intro f s taken w claimed
  have absent (k : RobotId) : ((s.blk.fleetReset s.env).robot k).mode = .absent := by rw [fleetReset_robot]; rfl
  have served : exec (.fleetReset f) s = .next
      { answered .fleetReset f { code := .ok, payload := bytesOf 2 (resetLocks s.env s.blk) } s with
        blk := (s.blk.fleetReset s.env).calmIf ((s.blk.fleetReset s.env).recovered s.env) } := by
    unfold exec
    refine request_served taken ?_
    simp only [State.taken_blk, State.taken_env, State.serve, finish_recoverTest absent, Option.map_some]
  have left := recovered_iff (e := s.env) absent
  have made := fleetReset_local s.env s.blk
  have claims (r : RowId) : (s.blk.row r).claimed = true ↔ claimed r := RowState.claimed_iff _
  refine ⟨_, resetLocks s.env s.blk, served, ?_, ?_, fun k => ?_, fun u => ?_, fun u => ?_, ⟨?_, ?_, ?_⟩, ?_, fun r hr => ?_,
    fun r hr => ?_, ?_⟩
  · simp only [resetLocks, ← claims, Bool.decide_and, Bool.decide_eq_true]
  all_goals dsimp only
  · rw [Block.calmIf_frame, fleetReset_frame]
  · rw [Block.calmIf_robot, fleetReset_robot]
  · rw [Block.calmIf_shuttle, made.shuttle, Block.dropFleet_shuttle]
    split <;> rfl
  · rw [Block.calmIf_link, made.queue]
    exact congrArg _ (Vector.getElem_replicate ..)
  · rw [Block.calmIf_link, made.enabled]; rfl
  · rw [Block.calmIf_link, made.lastServed]; rfl
  · rw [Block.calmIf_link, made.inFlight]; rfl
  · rw [Block.calmIf_deadlines, fleetReset_deadlines]
  · rw [Block.calmIf_row, Block.fleetReset_row, if_neg (by simp [hr])]
  · rw [Block.calmIf_row, Block.fleetReset_row, if_pos hr]
    obtain ⟨holder, occupant, reservation, reservedBy, restart, overstay, stranded, locks, keeps⟩ :=
      RowState.fleetReset_marks w (s.blk.row r)
    refine ⟨holder, occupant, reservation, reservedBy, restart, overstay, stranded, fun h => locks ((claims r).mpr h),
      fun h => keeps (mt (claims r).mp h), fun still => ?_, RowState.fleetReset_pending, RowState.fleetReset_released⟩
    have same := RowState.fleetReset_tracker w (s.blk.row r)
    rw [RowState.resetTracker_still (y := (s.blk.row r).unclaim) still] at same
    exact same
  · simp only [Block.calmIf_row]
    have weather : (s.blk.fleetReset s.env).weather = w := by rw [made.frame]; rfl
    have level : (s.blk.fleetReset s.env).level = s.blk.level := by rw [made.frame]; rfl
    rw [weather, level] at left
    refine ⟨fun h => ?_, fun h => ?_⟩
    · rw [left.mpr h]
      exact ⟨rfl, rfl⟩
    · rw [Bool.eq_false_iff.mpr (mt left.mp h)]
      exact ⟨weather, by rw [made.frame]; rfl⟩

end Sys2Proof.Machine
end

section
/-! PROOF. How a cascade runs: what it takes hand-ons from one block to another, and that it follows an offer of work (R69) as the
relation `Offers` says it. -/

namespace Sys2Proof.Machine

open Sys2Proof

variable {e : Env} {hold : Option ShuttleId} {due due' due'' : Due} {b c d : Block} {k : RobotId} {u : ShuttleId}

/-! ## Runs -/

/-- A cascade takes the hand-ons `ts` from `b` to `c` with at most `n` of its fuel, whatever waits behind them, and what the event
owes the park plan goes from `due` to `due'`. -/
def Runs (e : Env) (hold : Option ShuttleId) (n : Nat) (due : Due) (ts : List HandOn) (b : Block) (due' : Due) (c : Block) :
    Prop :=
  ∃ i ≤ n, ∀ m rest, cascade e (m + i) hold due (ts ++ rest) b = cascade e m hold due' rest c

/-- The hand-on is taken by `handle`: it does not steer the cascade itself. -/
def HandOn.plain : HandOn → Bool
  | .wantPass | .wantPlan _ | .holdOffers _ | .releaseOffers | .pass | .offer _ => false
  | _ => true

namespace Runs

theorem nil (b : Block) : Runs e hold 0 due [] b due b := ⟨0, le_rfl, fun _ _ => rfl⟩

theorem mono {n m : Nat} {ts : List HandOn} (h : Runs e hold n due ts b due' c) (le : n ≤ m) : Runs e hold m due ts b due' c :=
  let ⟨i, hi, run⟩ := h
  ⟨i, hi.trans le, run⟩

theorem append {n m : Nat} {ts us : List HandOn} (h : Runs e hold n due ts b due' c) (h' : Runs e hold m due' us c due'' d) :
    Runs e hold (n + m) due (ts ++ us) b due'' d := by
  obtain ⟨i, hi, run⟩ := h
  obtain ⟨j, hj, run'⟩ := h'
  refine ⟨j + i, by omega, fun l rest => ?_⟩
  rw [← Nat.add_assoc, List.append_assoc, run, run']

/-- A hand-on that does not steer the cascade, with the hand-ons it gives. -/
theorem handled {n : Nat} {t : HandOn} (plain : t.plain = true)
    (h : Runs e hold n due (handle e t b).2 (handle e t b).1 due' c) : Runs e hold (n + 1) due [t] b due' c := by
  obtain ⟨i, hi, run⟩ := h
  refine ⟨i + 1, by omega, fun m rest => ?_⟩
  rw [← run m rest, ← Nat.add_assoc]
  cases t
  case wantPass | wantPlan | holdOffers | releaseOffers | pass | offer => cases plain
  all_goals rfl

/-- A hand-on that gives no other. -/
theorem single {t : HandOn} (plain : t.plain = true) (h : handle e t b = (c, [])) : Runs e hold 1 due [t] b due c :=
  handled plain (by rw [h]; exact nil c)

theorem wantPlan (k : RobotId) (b : Block) : Runs e hold 1 due [.wantPlan k] b (due.withPlan k) b := ⟨1, le_rfl, fun _ _ => rfl⟩

/-- A shuttle to which offers wait, or that takes no work now, is passed over (R67, R69). -/
theorem offer_passed (h : hold = some u ∨ b.Occupied u) : Runs e hold 1 due [.offer u] b due b := by
  refine ⟨1, le_rfl, fun m rest => ?_⟩
  show (if hold = some u then _ else _) = _
  split
  · rfl
  · next open' =>
    have idle : b.offerWork e u = (b, []) := if_neg (h.resolve_left open')
    rw [idle]
    rfl

theorem offer_made {n : Nat} (open' : hold ≠ some u) (h : Runs e hold n due (b.offerWork e u).2 (b.offerWork e u).1 due' c) :
    Runs e hold (n + 1) due [.offer u] b due' c := by
  obtain ⟨i, hi, run⟩ := h
  refine ⟨i + 1, by omega, fun m rest => ?_⟩
  rw [← run m rest, ← Nat.add_assoc]
  exact if_neg open'

/-- An event whose hand-ons end with nothing owed to the park plan. -/
theorem finish {n : Nat} {ts : List HandOn} (h : Runs e none n (.plans []) ts b (.plans []) c) (fuel : n < 1000) :
    Handed.finish e (b, ts) = some c := by
  obtain ⟨i, hi, run⟩ := h
  obtain ⟨m, hm⟩ : ∃ m, cascadeFuel = m + 1 + i := ⟨99999 - i, by unfold cascadeFuel; omega⟩
  have run := run (m + 1) []
  rw [List.append_nil, ← hm] at run
  exact run

/-- An event whose hand-ons end with one robot to be planned alone (R168). -/
theorem finish_plan {n m : Nat} {ts : List HandOn} (h : Runs e none n (.plans []) ts b (.plans [k]) c)
    (plan : Runs e none m (.plans []) [.planRobot k] c (.plans []) d) (fuel : n + m < 1000) :
    Handed.finish e (b, ts) = some d := by
  obtain ⟨i, hi, run⟩ := h
  obtain ⟨j, hj, run'⟩ := plan
  obtain ⟨l, hl⟩ : ∃ l, cascadeFuel = l + 1 + j + 1 + i := ⟨99998 - i - j, by unfold cascadeFuel; omega⟩
  have run := run (l + 1 + j + 1) []
  have run' := run' (l + 1) []
  rw [List.append_nil, ← hl] at run
  exact run.trans run'

end Runs

/-! ## Offers of work (R69) -/

theorem Block.modShuttle_congr {g h : Shuttle → Shuttle} (same : g (b.shuttle u) = h (b.shuttle u)) :
    b.modShuttle u g = b.modShuttle u h := by
  simp [Block.modShuttle, modifyAt_congr _ _ (show g b.shuttles[u] = h b.shuttles[u] from same)]

theorem choice_eq (x : Shuttle) :
    x.choice = x.queue.find? fun t => decide (t.step = .queued ∧ (x.load = none ∨ x.load = some t.robot)) := by
  unfold Shuttle.choice
  cases x.load with
  | none => simp [Bool.beq_eq_decide_eq]
  | some k => simp [Bool.beq_eq_decide_eq, eq_comm]

/-- The record that R69 chooses is the first that the shuttle may take. -/
theorem choice_first {x : Shuttle} {before after : List Transfer} {t : Transfer} (queue : x.queue = before ++ t :: after)
    (may : t.step = .queued ∧ (x.load = none ∨ x.load = some t.robot))
    (first : ∀ y ∈ before, ¬ (y.step = .queued ∧ (x.load = none ∨ x.load = some y.robot))) : x.choice = some t := by
  rw [choice_eq, queue, List.find?_append, List.find?_eq_none.mpr fun y hy => by simpa using first y hy, Option.none_or,
    List.find?_cons_of_pos (by simpa using may)]

/-- The queue without the one record of a tag. -/
theorem filter_tag_ne {t : Transfer} {queue before after : List Transfer} (split : queue = before ++ t :: after)
    (unique : ∀ y ∈ before ++ after, y.tag ≠ t.tag) : (queue.filter fun y => y.tag != t.tag) = before ++ after := by
  have kept {l : List Transfer} (h : ∀ y ∈ l, y ∈ before ++ after) : (l.filter fun y => y.tag != t.tag) = l :=
    List.filter_eq_self.mpr fun y hy => bne_iff_ne.mpr (unique y (h y hy))
  rw [split, List.filter_append, List.filter_cons_of_neg (by simp), kept (by simp +contextual), kept (by simp +contextual)]

theorem Transfer.leaveRobot_queued {t : Transfer} (queued : t.step = .queued) (u : ShuttleId) (x : Robot) :
    t.leaveRobot u x = { x with
      transfer := none
      mode := match t.source with
        | .rowEnd _ => if x.mode = .waitTransfer then .idle else x.mode
        | .carried _ => x.mode } := by
  unfold Transfer.leaveRobot
  rw [queued]
  cases t.source <;> rfl

/-- The removal of a QUEUED record that is not its shuttle's current one (R77). -/
theorem removeRecord_queued {t : Transfer} {rest : List Transfer} (queued : t.step = .queued)
    (waits : (b.shuttle u).current ≠ some t.tag) (left : ((b.shuttle u).queue.filter fun y => y.tag != t.tag) = rest) :
    b.removeRecord u t =
      ((b.modShuttle u fun y => { y with queue := rest }).destReleased t).modRobot t.robot fun z =>
        { z with
          transfer := none
          mode := match t.source with
            | .rowEnd _ => if z.mode = .waitTransfer then .idle else z.mode
            | .carried _ => z.mode } := by
  have other : ((b.shuttle u).current == some t.tag) = false := beq_false_of_ne waits
  have shuttle : (b.modShuttle u fun x =>
        { x with queue := x.queue.filter fun z => z.tag != t.tag, current := if false = true then none else x.current })
      = b.modShuttle u fun y => { y with queue := rest } :=
    Block.modShuttle_congr (by rw [left]; rfl)
  unfold Block.removeRecord
  dsimp only
  rw [other, shuttle, show t.leaveRobot u = _ from funext (Transfer.leaveRobot_queued queued u)]
  rfl

/-- Parts 1 to 4 of R75 for a QUEUED record that is not its shuttle's current one. -/
theorem failParts_queued {t : Transfer} {rest : List Transfer} (queued : t.step = .queued)
    (waits : (b.shuttle u).current ≠ some t.tag) (left : ((b.shuttle u).queue.filter fun y => y.tag != t.tag) = rest)
    (why : FailReason) : b.failParts u t why = b.queuedFailed u t why rest := by
  rw [Block.failParts, removeRecord_queued queued waits left, Block.setOutcome, Block.modRobot_modRobot]
  rfl

theorem firstStep_command {position : Option Dest} {t : Transfer} {x : RunStep} {op : LinkOp} (h : FirstStep position t x op) :
    firstStep position t = x ∧ t.command x = some op := by
  obtain ⟨tag, robot, source, dest, origin, step⟩ := t
  cases source with
  | rowEnd r =>
    by_cases at' : position = some (.rowEnd r)
    · obtain ⟨rfl, rfl⟩ := (if_pos at').mp h
      exact ⟨if_pos at', rfl⟩
    · obtain ⟨rfl, rfl⟩ := (if_neg at').mp h
      exact ⟨if_neg at', rfl⟩
  | carried v =>
    cases dest with
    | garage =>
      obtain ⟨rfl, rfl⟩ := h
      exact ⟨rfl, rfl⟩
    | rowEnd d =>
      by_cases at' : position = some (.rowEnd d)
      · obtain ⟨rfl, rfl⟩ := (if_pos at').mp h
        exact ⟨if_pos at', rfl⟩
      · obtain ⟨rfl, rfl⟩ := (if_neg at').mp h
        exact ⟨if_neg at', rfl⟩

theorem Block.placeLink_modRobot (b : Block) (j : RobotId) (g : Robot → Robot) (u : ShuttleId) (op : LinkOp) (counts : Bool) :
    (b.modRobot j g).placeLink u op counts = (b.placeLink u op counts).modRobot j g := by
  rw [Block.placeLink_eq, Block.placeLink_eq]
  rfl

/-- The step that a dispatched record starts with (R69, R70). -/
theorem startStep_first {t : Transfer} {x : RunStep} {op : LinkOp} {before after : List Transfer} (command : t.command x = some op)
    (unique : ∀ y ∈ before ++ after, y.tag ≠ t.tag) (left : ((b.shuttle u).queue.filter fun y => y.tag != t.tag) = before ++ after) :
    (b.modShuttle u fun z =>
        { z with queue := t :: z.queue.filter (fun y => y.tag != t.tag), current := some t.tag }).startStep e u t x =
      (((b.modShuttle u fun w =>
            { w with
              mode := if x = .moveToSource ∨ x = .moveToDest then .moving else .docking
              current := some t.tag, pollDue := none, commandSent := false
              queue := { t with step := .running x } :: (before ++ after) }).modRobot t.robot fun w =>
            { w with inGarage := if x = .moveToDest ∨ x = .unloading then false else w.inGarage }).placeLink u op
          false).arm e (.shuttleStep u) e.params.stepTimeout := by
  have others : setStep t.tag (.running x) (before ++ after) = before ++ after :=
    (List.map_congr_left fun y hy => if_neg (unique y hy)).trans (List.map_id _)
  have queue : setStep t.tag (.running x) (t :: (before ++ after)) = { t with step := .running x } :: (before ++ after) := by
    unfold setStep at others ⊢
    rw [List.map_cons, others, if_pos rfl]
  have mode : x.shuttleMode = if x = .moveToSource ∨ x = .moveToDest then .moving else .docking := by cases x <;> rfl
  have shuttle : ((b.modShuttle u fun z =>
        { z with queue := t :: z.queue.filter (fun y => y.tag != t.tag), current := some t.tag }).modShuttle u fun z =>
        { z with mode := x.shuttleMode, pollDue := none, commandSent := false, queue := setStep t.tag (.running x) z.queue })
      = b.modShuttle u fun w =>
        { w with
          mode := if x = .moveToSource ∨ x = .moveToDest then .moving else .docking
          current := some t.tag, pollDue := none, commandSent := false
          queue := { t with step := .running x } :: (before ++ after) } := by
    rw [Block.modShuttle_modShuttle]
    refine Block.modShuttle_congr ?_
    rw [left, queue, mode]
  unfold Block.startStep
  dsimp only
  rw [shuttle, command]
  congr 1
  rw [Block.placeLink_modRobot]
  dsimp only
  split
  · exact Block.modRobot_congr rfl
  · exact (Block.modRobot_same rfl).symm

theorem offered_offerWork (free : ¬ b.Occupied u) (h : b.Offered e u c) : b.offerWork e u = (c, []) := by
  have idle := not_not.mp free
  unfold Block.offerWork
  dsimp only
  rw [if_pos idle]
  obtain ⟨none', rfl⟩ | ⟨before, t, after, x, op, queue, may, first, unique, unlocked, step, rfl⟩ := h
  · rw [choice_eq, List.find?_eq_none.mpr fun t ht => by simpa using none' t ht]
  · obtain ⟨start, command⟩ := firstStep_command step
    have dest : b.destLocked t.dest = false := by
      cases hd : t.dest with
      | garage => rfl
      | rowEnd d => simp [Block.destLocked, unlocked d hd]
    rw [choice_first queue may first]
    dsimp only
    rw [dest, start, startStep_first command unique (filter_tag_ne queue unique)]
    rfl

/-- A cascade follows an offer of work, with a turn for each record that fails before one is taken (R69, R75). -/
theorem runs_offers (h : Offers e hold u b c) :
    ∃ n ≤ 9, n ≤ (b.shuttle u).queue.length + 1 ∧ Runs e hold n due [.offer u] b due c := by
  induction h with
  | none b passed => exact ⟨1, by omega, by omega, .offer_passed passed⟩
  | taken b c open' free offered =>
    refine ⟨1, by omega, by omega, Runs.offer_made open' ?_⟩
    rw [offered_offerWork free offered]
    exact .nil c
  | locked b c before t after d open' free queue short unique may first dest locked origin _ ih =>
    obtain ⟨n, -, hn, run⟩ := ih
    have idle := not_not.mp free
    have left : ((b.queuedFailed u t .destLocked (before ++ after)).shuttle u).queue = before ++ after := by
      unfold Block.queuedFailed Block.destReleased
      cases t.dest <;> simp
    rw [left] at hn
    have fails : b.offerWork e u = (b.queuedFailed u t .destLocked (before ++ after), [.offer u]) := by
      unfold Block.offerWork
      dsimp only
      rw [if_pos idle, choice_first queue may first]
      have shut : b.destLocked t.dest = true := by
        rw [dest]
        exact Option.isSome_iff_ne_none.mpr locked
      dsimp only
      rw [if_pos shut, Block.failTransfer, failParts_queued may.1 (by simp [idle.2]) (filter_tag_ne queue unique),
        Block.failHandOn, origin]
      rfl
    refine ⟨n + 1, by omega, by simp only [queue, List.length_append, List.length_cons] at hn ⊢; omega, ?_⟩
    refine Runs.offer_made open' ?_
    rw [fails]
    exact run

end Sys2Proof.Machine
end

section
/-! PROOF. What an event's plans leave of a robot's place, battery and tasks, and how a cascade follows the relations `ChargePlanned`
(R57), `GivesTop` (R44, R59) and `ComesToRest` (R44). -/

namespace Sys2Proof.Machine

open Sys2Proof

variable {e : Env} {hold : Option ShuttleId} {due : Due} {b c d : Block} {k j : RobotId} {u : ShuttleId} {p : RowId}

/-! ## Robots that stay where they are -/

/-- From `b` to `c` the weather state stands, and robot `k` keeps its location and its battery. -/
structure Stays (k : RobotId) (b c : Block) : Prop where
  weather : c.weather = b.weather
  location : (c.robot k).location = (b.robot k).location
  battery : (c.robot k).battery = (b.robot k).battery

/-- Robot `k` keeps its tasks, too. -/
structure StaysTasked (k : RobotId) (b c : Block) : Prop extends Stays k b c where
  stack : (c.robot k).stack = (b.robot k).stack

theorem Stays.trans (h : Stays k b c) (h' : Stays k c d) : Stays k b d :=
  ⟨h'.weather.trans h.weather, h'.location.trans h.location, h'.battery.trans h.battery⟩

namespace StaysTasked

theorem refl (b : Block) : StaysTasked k b b := ⟨⟨rfl, rfl, rfl⟩, rfl⟩

theorem trans (h : StaysTasked k b c) (h' : StaysTasked k c d) : StaysTasked k b d :=
  ⟨h.toStays.trans h'.toStays, h'.stack.trans h.stack⟩

theorem of_robot (weather : c.weather = b.weather) (robot : c.robot k = b.robot k) : StaysTasked k b c :=
  ⟨⟨weather, by rw [robot], by rw [robot]⟩, by rw [robot]⟩

theorem modRobot {g : Robot → Robot} (location : (g (b.robot j)).location = (b.robot j).location)
    (battery : (g (b.robot j)).battery = (b.robot j).battery) (stack : (g (b.robot j)).stack = (b.robot j).stack) :
    StaysTasked k b (b.modRobot j g) := by
  by_cases hj : j = k
  · subst hj
    have own : (b.modRobot j g).robot j = g (b.robot j) := by simp
    exact ⟨⟨rfl, by rw [own, location], by rw [own, battery]⟩, by rw [own, stack]⟩
  · exact of_robot rfl (by simp [hj])

theorem askTransfer {origin : Origin} {dest : Dest} {v : ShuttleId} {tag : Tag}
    (h : askTransfer e b origin j dest = .ok (c, v, tag)) : StaysTasked k b c := by
  unfold Machine.askTransfer at h
  cases hc : transferCheck e b origin j dest with
  | error code => rw [hc] at h; cases h
  | ok x =>
    rw [hc] at h
    obtain ⟨source, w, t⟩ := x
    cases h
    have reserved : StaysTasked k b (b.reserveDest dest tag) := by
      cases dest <;> exact of_robot rfl rfl
    exact (reserved.trans (modRobot rfl rfl rfl)).trans (of_robot rfl rfl)

theorem queuedFailed {t : Transfer} {why : FailReason} {rest : List Transfer} : StaysTasked k b (b.queuedFailed u t why rest) := by
  have released : StaysTasked k b ((b.modShuttle u fun y => { y with queue := rest }).destReleased t) := by
    unfold Block.destReleased
    split <;> exact of_robot rfl rfl
  exact released.trans (modRobot rfl rfl rfl)

theorem offers (h : Offers e hold u b c) : StaysTasked k b c := by
  induction h with
  | none b => exact refl b
  | taken b c _ _ offered =>
    obtain ⟨-, rfl⟩ | ⟨before, t, after, x, op, -, -, -, -, -, -, rfl⟩ := offered
    · exact refl _
    · rw [Block.placeLink_eq]
      exact (modRobot (j := t.robot) rfl rfl rfl).trans (of_robot rfl rfl)
  | locked b c before t after d _ _ _ _ _ _ _ _ _ _ _ ih => exact queuedFailed.trans ih

end StaysTasked

/-! ## Rounds -/

theorem Robot.idleAt_iff {x : Robot} : x.idleAt = some p ↔ x.IdleAt p :=
  ⟨Robot.idleAt_some, fun ⟨mode, location⟩ => by simp only [Robot.idleAt, mode, location]⟩

theorem Robot.idleAt_none {x : Robot} : x.idleAt = none ↔ ∀ p, ¬ x.IdleAt p := by
  simp only [← Robot.idleAt_iff, Option.eq_none_iff_forall_ne_some]

/-- Starting entries leaves the robot's place and tasks, and asks for one offer of work at most (R104 to R106). -/
theorem startEntries_spec (n : Nat) (rd : Round) (b : Block) :
    StaysTasked k b (startEntries e k p n rd b).2.1
      ∧ ((startEntries e k p n rd b).2.2 = [] ∨ ∃ u, (startEntries e k p n rd b).2.2 = [.offer u]) := by
  induction n generalizing rd b with
  | zero => exact ⟨.refl b, .inl rfl⟩
  | succ n ih =>
    have skipped (r : RowId) (rd : Round) :
        StaysTasked k b (startEntries e k p n rd (b.unreserve r)).2.1
          ∧ ((startEntries e k p n rd (b.unreserve r)).2.2 = []
            ∨ ∃ u, (startEntries e k p n rd (b.unreserve r)).2.2 = [.offer u]) :=
      ⟨StaysTasked.trans (c := b.unreserve r) (.of_robot rfl rfl) (ih _ _).1, (ih _ _).2⟩
    unfold startEntries
    split
    · exact ⟨.refl b, .inl rfl⟩
    · split
      · exact skipped _ _
      · split
        · split
          · refine ⟨?_, .inl rfl⟩
            exact ((StaysTasked.of_robot rfl rfl).trans (.modRobot rfl rfl rfl)).trans (.of_robot rfl rfl)
          · exact skipped _ _
        · split
          · next hask => exact ⟨.askTransfer hask, .inr ⟨_, rfl⟩⟩
          · exact skipped _ _

theorem dropRound_setRound (rd : Round) (stack : List RobotTask) : dropRound (setRound rd stack) = dropRound stack := by
  unfold dropRound setRound
  induction stack with
  | nil => rfl
  | cons t ts ih =>
    cases t with
    | round x => simpa [RobotTask.isRound] using ih
    | charge => simpa [RobotTask.isRound] using ih
    | park => simpa [RobotTask.isRound] using ih

theorem StaysTasked.unreserve {α : Type} (row : α → RowId) (l : List α) (b : Block) :
    StaysTasked k b (l.foldl (fun c x => c.unreserve (row x)) b) := by
  induction l generalizing b with
  | nil => exact .refl b
  | cons x xs ih => exact StaysTasked.trans (c := b.unreserve (row x)) (.of_robot rfl rfl) (ih _)

/-- The completion of a round on top (R114). -/
theorem finishRound_top {rd : Round} {below : List RobotTask} (top : (b.robot k).stack = .round rd :: below) :
    b.finishRound k =
      if rd.complete then
        (b.modRobot k fun x => { x with stack := dropRound x.stack, outcome := .roundDone }, [.giveTop k])
      else (b, []) := by
  have round : (b.robot k).round = some rd := by simp [Robot.round, top]
  have on : (b.robot k).roundOnTop = true := by simp [Robot.roundOnTop, top, RobotTask.isRound]
  unfold Block.finishRound
  simp only [round, on, if_true]

/-- A robot handed to its round (R104, R114): the round is popped and the task below is to be given it, or the round as it then
stands is on top; and the shuttle that was asked for a transfer is to be offered work. -/
theorem handToRound_some {rd rd' : Round} {below : List RobotTask} {h : List HandOn} (top : (b.robot k).stack = .round rd :: below)
    (handed : handToRound e k b = (some rd', c, h)) :
    Stays k b c ∧ ∃ asked, (asked = [] ∨ ∃ u, asked = [HandOn.offer u])
      ∧ (((c.robot k).stack = dropRound (b.robot k).stack ∧ h = asked ++ [.giveTop k])
        ∨ ((c.robot k).stack = setRound rd' (b.robot k).stack ∧ h = asked)) := by
  unfold handToRound at handed
  split at handed
  · next p rd0 at' round =>
    split at handed
    · dsimp only at handed
      generalize hb0 : (rd0.entries.filter fun x => x.state == .active && x.entered).foldl (fun c x => c.unreserve x.row) b = b0
        at handed
      have stays0 : StaysTasked k b b0 := hb0 ▸ .unreserve Entry.row _ b
      generalize rd0.mapEntries _ _ = rd1 at handed
      generalize hx : (if rd1.complete = true then _ else _) = x at handed
      obtain ⟨rd2, b1, asked⟩ := x
      have started : StaysTasked k b0 b1 ∧ (asked = [] ∨ ∃ u, asked = [.offer u]) := by
        split at hx
        · cases hx; exact ⟨.refl _, .inl rfl⟩
        · split at hx
          · cases hx; exact ⟨.refl _, .inl rfl⟩
          · have spec := startEntries_spec (e := e) (k := k) (p := p) (rd1.entries.length + 1) { rd1 with paused := false } b0
            rw [hx] at spec
            exact spec
      have stays1 : StaysTasked k b b1 := stays0.trans started.1
      have top2 : ((b1.modRobot k fun x => { x with stack := setRound rd2 x.stack }).robot k).stack
          = .round rd2 :: setRound rd2 below := by
        simp [stays1.stack, top, setRound, RobotTask.isRound]
      dsimp only at handed
      rw [finishRound_top top2] at handed
      have moved : Stays k b (b1.modRobot k fun x => { x with stack := setRound rd2 x.stack }) :=
        stays1.toStays.trans ⟨rfl, by simp, by simp⟩
      split at handed
      · cases handed
        refine ⟨moved.trans ⟨rfl, by simp, by simp⟩, asked, started.2, .inl ⟨?_, rfl⟩⟩
        simp [stays1.stack, dropRound_setRound]
      · cases handed
        refine ⟨moved, asked, started.2, .inr ⟨?_, List.append_nil _⟩⟩
        simp [stays1.stack]
    · cases handed
  · cases handed

/-! ## The charge plan (R57) -/

/-- The nearest row of an ascending list is in it, and comes before every other one by its distance and its number. -/
theorem nearestRow_spec {l : List RowId} (sorted : l.Pairwise (· < ·)) :
    (nearestRow p l = none → l = [])
      ∧ ∀ c, nearestRow p l = some c → c ∈ l ∧ ∀ d ∈ l, rowDistance c p < rowDistance d p
        ∨ (rowDistance c p = rowDistance d p ∧ c ≤ d) := by
  induction l with
  | nil => exact ⟨fun _ => rfl, fun c h => by cases h⟩
  | cons x xs ih =>
    obtain ⟨before, sorted⟩ := List.pairwise_cons.mp sorted
    obtain ⟨none', some'⟩ := ih sorted
    unfold nearestRow
    cases hn : nearestRow p xs with
    | none =>
      rw [none' hn]
      refine ⟨nofun, fun c h => ?_⟩
      cases h
      simp
    | some y =>
      obtain ⟨mem, least⟩ := some' y hn
      dsimp only
      split
      · next near =>
        refine ⟨nofun, fun c h => ?_⟩
        cases h
        refine ⟨List.mem_cons_self, fun d hd => ?_⟩
        obtain rfl | hd := List.mem_cons.mp hd
        · exact .inr ⟨rfl, le_rfl⟩
        · have far := least d hd
          have after := before d hd
          rw [Fin.le_def] at far ⊢
          rw [Fin.lt_def] at after
          omega
      · next far =>
        refine ⟨nofun, fun c h => ?_⟩
        cases h
        refine ⟨List.mem_cons_of_mem x mem, fun d hd => ?_⟩
        obtain rfl | hd := List.mem_cons.mp hd
        · exact .inl (by omega)
        · exact least d hd

theorem rowDistance_eq (c p : RowId) : rowDistance c p = (p.val - c.val) + (c.val - p.val) := by
  unfold rowDistance
  split <;> omega

theorem mem_cradleCandidates {c : RowId} : c ∈ cradleCandidates e b u ↔ b.CradleFor e u c := by
  simp [cradleCandidates, allRows, RowState.isOpen, RowState.endFree]
  tauto

theorem cradleCandidates_sorted (e : Env) (b : Block) (u : ShuttleId) : (cradleCandidates e b u).Pairwise (· < ·) :=
  (List.pairwise_lt_finRange 256).filter _

theorem nearestRow_none (none' : ∀ c, ¬ b.CradleFor e u c) : nearestRow p (cradleCandidates e b u) = none := by
  rw [List.eq_nil_iff_forall_not_mem.mpr fun c hc => none' c (mem_cradleCandidates.mp hc)]
  rfl

theorem nearestRow_nearest {c : RowId} (near : b.NearestCradle e u p c) : nearestRow p (cradleCandidates e b u) = some c := by
  obtain ⟨cradle, least⟩ := near
  have mem := mem_cradleCandidates.mpr cradle
  obtain ⟨none', some'⟩ := nearestRow_spec (p := p) (cradleCandidates_sorted e b u)
  cases hn : nearestRow p (cradleCandidates e b u) with
  | none => simp [none' hn] at mem
  | some d =>
    obtain ⟨hd, before⟩ := some' d hn
    have h1 := before c mem
    have h2 := least d (mem_cradleCandidates.mp hd)
    rw [rowDistance_eq, rowDistance_eq] at h1
    rw [Fin.le_def] at h1 h2
    exact congrArg some (Fin.ext (by dsimp only at h2; omega))

theorem runs_chargePlan {c : Block} (at' : (b.robot k).IdleAt p) (h : ChargePlanned e hold k p b c) :
    Runs e hold 9 due (chargePlan e k b).2 (chargePlan e k b).1 due c := by
  have place := Robot.idleAt_iff.mpr at'
  have ends (h : chargePlan e k b = (c, [])) : Runs e hold 9 due (chargePlan e k b).2 (chargePlan e k b).1 due c := by
    rw [h]
    exact (Runs.nil c).mono (by omega)
  obtain ⟨cradle, hc⟩ | ⟨cradle, none', hc⟩ | ⟨u, d, cradle, via, near, asked⟩ := h
  · refine ends ?_
    unfold chargePlan
    simp only [place, cradle, hc, if_true]
  · refine ends ?_
    unfold chargePlan
    cases via : (e.row p).shuttle with
    | none => simp only [place, cradle, hc, via]; rfl
    | some u => simp only [place, cradle, hc, via, nearestRow_none fun c => none' u c via]; rfl
  · unfold chargePlan
    simp only [place, cradle, via, nearestRow_nearest near]
    cases answer : askTransfer e b .charge k (.rowEnd d) with
    | error code =>
      rw [answer] at asked
      subst asked
      exact (Runs.nil _).mono (by omega)
    | ok x =>
      obtain ⟨f, v, tag⟩ := x
      rw [answer] at asked
      obtain ⟨n, hn, -, run⟩ := runs_offers asked
      exact run.mono hn

theorem ChargePlanned.stays {c : Block} (h : ChargePlanned e hold k p b c) : StaysTasked k b c := by
  have wait (w : Bool) (d : Block) : StaysTasked k d (d.modRobot k fun z => { z with chargeWait := w }) := .modRobot rfl rfl rfl
  obtain ⟨-, rfl⟩ | ⟨-, -, rfl⟩ | ⟨u, d, -, -, -, asked⟩ := h
  · exact wait _ _
  · exact wait _ _
  · cases answer : askTransfer e b .charge k (.rowEnd d) with
    | error code =>
      rw [answer] at asked
      subst asked
      exact wait _ _
    | ok x =>
      rw [answer] at asked
      exact ((StaysTasked.askTransfer answer).trans (wait _ _)).trans (.offers asked)

end Sys2Proof.Machine
end

section
/-! PROOF. How a cascade gives a robot its top task (R44, R59), brings it to rest and plans it (R168): it follows the relations
`GivesTop`, `ComesToRest` and `Planned`. -/

namespace Sys2Proof.Machine

open Sys2Proof

variable {e : Env} {hold : Option ShuttleId} {due : Due} {b c d : Block} {k : RobotId} {p : RowId}

/-! ## The tests of the tasks -/

theorem popTest_iff {x : Robot} :
    popTest e x = true ↔ x.stack.head? = some .charge ∧ ∃ p, x.IdleAt p ∧ (e.row p).cradle = true
      ∧ e.params.resumeLevel ≤ x.battery := by
  simp only [← Robot.idleAt_iff]
  unfold popTest
  split
  · next r top at' => simp [top, at']
  · next other =>
    refine ⟨nofun, ?_⟩
    rintro ⟨top, p, at', -⟩
    obtain ⟨below, stack⟩ := List.head?_eq_some_iff.mp top
    exact absurd at' (other below p stack)

theorem popTest_top {x : Robot} (h : x.stack.head? ≠ some .charge) : popTest e x = false :=
  Bool.eq_false_iff.mpr fun hp => h (popTest_iff.mp hp).1

theorem pushTest_iff {x : Robot} :
    pushTest e b x = true ↔ x.battery < e.params.chargeFloor ∧ (b.weather = .calm ∨ b.weather = .watch)
      ∧ RobotTask.charge ∉ x.stack := by
  simp [pushTest, Robot.holdsCharge, and_assoc]

/-- Robot `k` stands IDLE at a row end with a PARK task on top: its top task is the park plan's to give (R44, R168). -/
abbrev Block.ToPlan (k : RobotId) (b : Block) : Prop := (b.robot k).stack.head? = some .park ∧ ∃ p, (b.robot k).IdleAt p

/-- What the event owes the park plan once robot `k` has been given its top task and the block is `c`. -/
def Due.given (k : RobotId) (c : Block) (due : Due) : Due := if c.ToPlan k then due.withPlan k else due

theorem Due.given_of (h : c.ToPlan k) : due.given k c = due.withPlan k := if_pos h
theorem Due.given_not (h : ¬ c.ToPlan k) : due.given k c = due := if_neg h
theorem Due.given_top (h : (c.robot k).stack.head? ≠ some .park) : due.given k c = due := if_neg fun plan => h plan.1

/-! ## The top task -/

theorem giveTop_round {rd : Round} {below : List RobotTask} (at' : (b.robot k).IdleAt p)
    (top : (b.robot k).stack = .round rd :: below) : giveTop k b = (b, [.handRound k]) := by
  unfold giveTop
  simp only [Robot.idleAt_iff.mpr at', top]

theorem giveTop_charge {below : List RobotTask} (at' : (b.robot k).IdleAt p) (top : (b.robot k).stack = .charge :: below) :
    giveTop k b = (b, [.chargeTop k]) := by
  unfold giveTop
  simp only [Robot.idleAt_iff.mpr at', top]

theorem giveTop_nothing
    (h : (∀ p, ¬ (b.robot k).IdleAt p) ∨ (b.robot k).stack = [] ∨ (b.robot k).stack.head? = some .park) :
    giveTop k b = (b, if b.ToPlan k then [.wantPlan k] else []) := by
  unfold giveTop
  cases hp : (b.robot k).idleAt with
  | none =>
    rw [if_neg fun plan => let ⟨p, at'⟩ := plan.2; Robot.idleAt_none.mp hp p at']
    simp only [hp]
  | some p =>
    have at' := Robot.idleAt_iff.mp hp
    obtain elsewhere | empty | park := h
    · exact absurd at' (elsewhere p)
    · simp [empty]
    · obtain ⟨below, stack⟩ := List.head?_eq_some_iff.mp park
      rw [if_pos ⟨park, p, at'⟩]
      simp only [hp, stack]

theorem chargeTop_done {below : List RobotTask} (at' : (b.robot k).IdleAt p) (top : (b.robot k).stack = .charge :: below)
    (charged : (e.row p).cradle = true ∧ e.params.resumeLevel ≤ (b.robot k).battery) :
    chargeTop e k b = (b.modRobot k fun z => { z with stack := below }, [.giveTop k]) := by
  have pops : popTest e (b.robot k) = true := popTest_iff.mpr ⟨by rw [top]; rfl, p, at', charged⟩
  rw [chargeTop, if_pos pops]
  congr 1
  exact Block.modRobot_congr (by rw [top]; rfl)

theorem chargeTop_charges (at' : (b.robot k).IdleAt p)
    (low : ¬ ((e.row p).cradle = true ∧ e.params.resumeLevel ≤ (b.robot k).battery)) : chargeTop e k b = chargePlan e k b := by
  refine if_neg fun pops => ?_
  obtain ⟨-, q, at'', charged⟩ := popTest_iff.mp pops
  rw [Robot.IdleAt, at'.2] at at''
  cases at''.2
  exact low charged

/-! ## Giving a robot its top task -/

/-- The number of tasks that a robot may be given one after another: a round that completes is followed by the task below, and a
charge that is done is. -/
def topTurns (stack : List RobotTask) : Nat :=
  (if stack.any RobotTask.isRound then 1 else 0) + (if RobotTask.charge ∈ stack then 1 else 0)

theorem topTurns_le (stack : List RobotTask) : topTurns stack ≤ 2 := by
  unfold topTurns
  split <;> split <;> omega

theorem topTurns_dropRound (rd : Round) (below : List RobotTask) :
    topTurns (.round rd :: below) = topTurns (dropRound (.round rd :: below)) + 1 := by
  simp [topTurns, dropRound, RobotTask.isRound]
  omega

theorem topTurns_charge {below : List RobotTask} (h : RobotTask.charge ∉ below) :
    topTurns (.charge :: below) = topTurns below + 1 := by
  simp [topTurns, h, RobotTask.isRound]

/-- Where a round stays on top, the robot is not one to be planned, and has no charge to pop. -/
theorem top_setRound {rd rd' : Round} {below : List RobotTask} {c : Block} (top : (b.robot k).stack = .round rd :: below)
    (left : (c.robot k).stack = setRound rd' (b.robot k).stack) : (c.robot k).stack.head? = some (.round rd') := by
  rw [left, top]
  rfl

/-- What a robot that has been given its top task leaves: it stays where it is, and no charge is to be popped any more. -/
theorem GivesTop.ends (h : GivesTop e hold k b c) : Stays k b c ∧ popTest e (c.robot k) = false := by
  induction h with
  | nothing b h =>
    refine ⟨⟨rfl, rfl, rfl⟩, Bool.eq_false_iff.mpr fun pops => ?_⟩
    obtain ⟨top, p, at', -⟩ := popTest_iff.mp pops
    obtain elsewhere | empty | park := h
    · exact elsewhere p at'
    · simp [empty] at top
    · simp [park] at top
  | round b c p rd rd' below at' top handed =>
    obtain ⟨stays, asked, -, ⟨-, h⟩ | ⟨left, -⟩⟩ := handToRound_some top handed
    · simp at h
    · exact ⟨stays, popTest_top (by simp [top_setRound top left])⟩
  | roundAsks b c d p rd rd' below u at' top handed offers =>
    obtain ⟨stays, asked, -, ⟨-, h⟩ | ⟨left, -⟩⟩ := handToRound_some top handed
    · cases asked <;> simp at h
    · have same := StaysTasked.offers (k := k) offers
      exact ⟨stays.trans same.toStays, popTest_top (by rw [same.stack, top_setRound top left]; simp)⟩
  | roundDone b c d p rd rd' below at' top handed _ ih => exact ⟨(handToRound_some top handed).1.trans ih.1, ih.2⟩
  | chargeDone b c p below at' top _ _ _ _ ih => 
    exact ⟨Stays.trans (c := b.modRobot k fun z => { z with stack := below }) ⟨rfl, by simp, by simp⟩ ih.1, ih.2⟩
  | charges b c p below at' top low planned =>
    have same := planned.stays
    refine ⟨same.toStays, Bool.eq_false_iff.mpr fun pops => ?_⟩
    obtain ⟨-, q, at'', charged⟩ := popTest_iff.mp pops
    rw [Robot.IdleAt, same.location, at'.2] at at''
    cases at''.2
    rw [same.battery] at charged
    exact low charged

theorem runs_giveTop_turns (h : GivesTop e hold k b c) :
    ∃ n ≤ 11 + 2 * topTurns (b.robot k).stack, Runs e hold n due [.giveTop k] b (due.given k c) c := by
  induction h with
  | nothing b h =>
    refine ⟨2, by omega, Runs.handled rfl ?_⟩
    simp only [handle, giveTop_nothing h]
    by_cases plan : b.ToPlan k
    · rw [if_pos plan, Due.given_of plan]
      exact .wantPlan k b
    · rw [if_neg plan, Due.given_not plan]
      exact (Runs.nil b).mono (by omega)
  | round b c p rd rd' below at' top handed =>
    obtain ⟨-, asked, -, ⟨-, h⟩ | ⟨left, -⟩⟩ := handToRound_some top handed
    · simp at h
    rw [Due.given_top (by simp [top_setRound top left])]
    refine ⟨2, by omega, Runs.handled rfl ?_⟩
    simp only [handle, giveTop_round at' top]
    exact Runs.single (t := .handRound k) rfl (by simp only [handle, handed])
  | roundAsks b c d p rd rd' below u at' top handed offers =>
    obtain ⟨-, asked, -, ⟨-, h⟩ | ⟨left, -⟩⟩ := handToRound_some top handed
    · cases asked <;> simp at h
    rw [Due.given_top (by simp [(StaysTasked.offers (k := k) offers).stack, top_setRound top left])]
    obtain ⟨n, hn, -, run⟩ := runs_offers offers
    refine ⟨n + 1 + 1, by omega, Runs.handled rfl ?_⟩
    simp only [handle, giveTop_round at' top]
    refine Runs.handled (t := .handRound k) rfl ?_
    simp only [handle, handed]
    exact run
  | roundDone b c d p rd rd' below at' top handed _ ih =>
    obtain ⟨-, asked, asks, ⟨left, -⟩ | ⟨-, h⟩⟩ := handToRound_some top handed
    · obtain ⟨n, hn, run⟩ := ih
      rw [left, top] at hn
      refine ⟨n + 1 + 1, by rw [top, topTurns_dropRound]; omega, Runs.handled rfl ?_⟩
      simp only [handle, giveTop_round at' top]
      refine Runs.handled (t := .handRound k) rfl ?_
      simp only [handle, handed]
      exact run
    · obtain rfl | ⟨u, rfl⟩ := asks <;> cases h
  | chargeDone b c p below at' top single cradle charged _ ih =>
    obtain ⟨n, hn, run⟩ := ih
    have left : ((b.modRobot k fun z => { z with stack := below }).robot k).stack = below := by simp
    rw [left] at hn
    refine ⟨n + 1 + 1, by rw [top, topTurns_charge single]; omega, Runs.handled rfl ?_⟩
    simp only [handle, giveTop_charge at' top]
    refine Runs.handled (t := .chargeTop k) rfl ?_
    simp only [handle, chargeTop_done at' top ⟨cradle, charged⟩]
    exact run
  | charges b c p below at' top low planned =>
    rw [Due.given_top (by simp [planned.stays.stack, top])]
    refine ⟨9 + 1 + 1, by omega, Runs.handled rfl ?_⟩
    simp only [handle, giveTop_charge at' top]
    refine Runs.handled (t := .chargeTop k) rfl ?_
    simp only [handle, chargeTop_charges at' low]
    exact runs_chargePlan at' planned

/-- A cascade gives a robot its top task (R44, R59). -/
theorem runs_giveTop (h : GivesTop e hold k b c) : Runs e hold 15 due [.giveTop k] b (due.given k c) c := by
  obtain ⟨n, hn, run⟩ := runs_giveTop_turns (due := due) h
  have := topTurns_le (b.robot k).stack
  exact run.mono (by omega)

/-! ## Coming to rest and the plan alone -/

/-- The block in which a robot that comes to rest is given its top task: a deferred charge push has been tested (R44, step 1; R56). -/
theorem comeToRest_idle (at' : (b.robot k).IdleAt p) :
    comeToRest e k b =
      (if (b.robot k).chargeDeferred then
        b.modRobot k fun z =>
          { z with chargeDeferred := false, stack := if pushTest e b (b.robot k) then .charge :: z.stack else z.stack }
      else b, [.giveTop k]) := by
  unfold comeToRest
  simp only [Robot.idleAt_iff.mpr at']

/-- A robot that is not IDLE at a row end is given nothing. -/
theorem GivesTop.elsewhere (h : GivesTop e hold k b c) (elsewhere : ∀ p, ¬ (b.robot k).IdleAt p) : c = b := by
  cases h with
  | nothing => rfl
  | round _ _ _ _ _ _ at' => exact absurd at' (elsewhere _)
  | roundAsks _ _ _ _ _ _ _ _ at' => exact absurd at' (elsewhere _)
  | roundDone _ _ _ _ _ _ _ at' => exact absurd at' (elsewhere _)
  | chargeDone _ _ _ _ at' => exact absurd at' (elsewhere _)
  | charges _ _ _ _ at' => exact absurd at' (elsewhere _)

/-- A robot that comes to rest stays where it is, and no charge is to be popped then. -/
theorem ComesToRest.ends (h : ComesToRest e hold k b c) : Stays k b c ∧ popTest e (c.robot k) = false := by
  obtain ⟨stays, pops⟩ := GivesTop.ends h
  refine ⟨Stays.trans ?_ stays, pops⟩
  split
  · exact ⟨rfl, by simp, by simp⟩
  · exact ⟨rfl, rfl, rfl⟩

/-- What comes to rest is given its top task, whether it stands at a row end or not. -/
theorem ComesToRest.givesTop (h : ComesToRest e hold k b c) (at' : (b.robot k).IdleAt p) :
    GivesTop e hold k (comeToRest e k b).1 c := by
  replace h : GivesTop e hold k (if _ then _ else b) c := h
  rw [comeToRest_idle at']
  by_cases deferred : (b.robot k).chargeDeferred = true
  · rw [if_pos ⟨deferred, p, at'⟩] at h
    dsimp only
    rw [if_pos deferred]
    simpa only [pushTest_iff] using h
  · rw [if_neg fun h => deferred h.1] at h
    dsimp only
    rwa [if_neg deferred]

/-- A cascade brings a robot to rest (R44). -/
theorem runs_rest (h : ComesToRest e hold k b c) : Runs e hold 16 due [.rest k] b (due.given k c) c := by
  by_cases elsewhere : ∀ p, ¬ (b.robot k).IdleAt p
  · have nowhere : ¬ ∃ p, (b.robot k).IdleAt p := not_exists.mpr elsewhere
    replace h : GivesTop e hold k (if _ then _ else b) c := h
    rw [if_neg fun deferred => nowhere deferred.2] at h
    obtain rfl := h.elsewhere elsewhere
    rw [Due.given_not fun plan => nowhere plan.2]
    have still : handle e (.rest k) c = (c, []) := by
      simp only [handle, comeToRest, Robot.idleAt_none.mpr elsewhere]
    exact (Runs.single rfl still).mono (by omega)
  · obtain ⟨p, at'⟩ := not_forall_not.mp elsewhere
    have asks : (handle e (.rest k) b).2 = [.giveTop k] := congrArg Prod.snd (comeToRest_idle at')
    exact Runs.handled rfl (asks ▸ runs_giveTop (h.givesTop at'))

/-- A cascade makes the plan of one robot (R168, R169). -/
theorem runs_planRobot (h : Planned e hold k b c) : Runs e hold 10 due [.planRobot k] b due c := by
  refine Runs.handled (n := 9) rfl ?_
  simp only [handle]
  obtain ⟨none', rfl⟩ | ⟨u, asks, offers⟩ := h
  · rw [none']
    exact (Runs.nil _).mono (by omega)
  · obtain ⟨n, hn, -, run⟩ := runs_offers (due := due) offers
    rw [asks]
    exact run.mono hn

/-- An event that brings a robot to rest, and makes no pass. -/
theorem finish_restsAlone (h : RestsAlone e k b d) : Handed.finish e (b, [.rest k]) = some d := by
  obtain ⟨c, rests, planned⟩ := h
  have run := runs_rest (due := .plans []) rests
  split at planned
  · next plan =>
    rw [Due.given_of plan] at run
    exact run.finish_plan (runs_planRobot planned) (by omega)
  · next plan =>
    rw [Due.given_not plan] at run
    subst planned
    exact run.finish (by omega)

end Sys2Proof.Machine
end

section
/-! PROOF. ENROLL (R50) and WITHDRAW (R51): the checks, the placing with its coming to rest, and the record that leaves. -/

namespace Sys2Proof.Machine

open Sys2Proof

variable {s : State} {f : Frame} {e : Env} {b c : Block} {k : RobotId} {r : RowId} {robot : Byte}

/-- A taken request whose event ends at `c`. -/
theorem request_finished {q : Request} {a : Answer} {x : Handed} {body : State → Served} (h : Taken q f s)
    (hb : body (s.taken f) = (s.taken f).serve x a) (hx : Handed.finish s.env x = some c) :
    request q f s body = .next { answered q f a s with blk := c } := by
  have ends : Handed.finish (s.taken f).env x = some c := (State.taken_env s f).symm ▸ hx
  refine request_served h ?_
  rw [hb, State.serve, ends]
  rfl

/-! ## ENROLL (R50) -/

theorem RowState.endFree_iff (x : RowState) :
    x.endFree = true ↔ x.occupant = none ∧ x.reservation = none ∧ x.holder = none := by
  simp [RowState.endFree, and_assoc]

theorem RowState.reservedByOther_iff (x : RowState) : x.reservedByOther k = true ↔ ∃ j, x.reservedBy = some j ∧ j ≠ k := by
  unfold RowState.reservedByOther
  cases x.reservedBy <;> simp

theorem enrollCheck_placed (h : ¬ ((b.robot k).mode = .absent ∨ (b.robot k).location = .unknown)) :
    enrollCheck b k r = some .state := by
  obtain ⟨enrolled, known⟩ := not_or.mp h
  exact if_pos (by simp [Robot.enrolled, enrolled, known])

/-- Checks 4 to 6 of R50, of a robot that may be placed. -/
theorem enrollCheck_row (h : (b.robot k).mode = .absent ∨ (b.robot k).location = .unknown) :
    enrollCheck b k r =
      if (b.row r).locked.isSome then some .state
      else if !(b.row r).endFree then some .endBusy
      else if (b.row r).reservedByOther k then some .reserved
      else none := by
  refine if_neg ?_
  obtain h | h := h <;> simp [Robot.enrolled, h]

theorem execEnroll_check (taken : Taken .enroll f s) (hk : robot.toNat = k.val) (present : (s.env.row r).present = true)
    {code : Code} (check : enrollCheck s.blk k r = some code) :
    exec (.enroll f robot r) s = .next (answered .enroll f { code := code } s) := by
  unfold exec
  refine request_refused taken ?_
  have row : ((s.taken f).env.row r).present = true := by rw [State.taken_env]; exact present
  rw [State.onRow, if_pos row, onRobot_inside hk, State.taken_blk, check]

theorem execEnroll_accepted (taken : Taken .enroll f s) (hk : robot.toNat = k.val) (present : (s.env.row r).present = true)
    (check : enrollCheck s.blk k r = none) (rests : RestsAlone s.env k (s.blk.enroll k r) c) :
    exec (.enroll f robot r) s = .next { answered .enroll f { code := .ok } s with blk := c } := by
  unfold exec
  refine request_finished taken ?_ (finish_restsAlone rests)
  have row : ((s.taken f).env.row r).present = true := by rw [State.taken_env]; exact present
  rw [State.onRow, if_pos row, onRobot_inside hk, State.taken_blk, check]

/-- What ENROLL makes of a robot's record (R50). -/
theorem Robot.placed_eq (storm : Bool) (r : RowId) (x : Robot) :
    Robot.placed storm r x =
      { x with
        mode := .idle, location := .rowEnd r
        stack := if x.mode = .absent ∧ storm = true then .park :: x.stack else x.stack
        order := if x.mode ≠ .absent ∧ x.order = .attend then .none else x.order } := by
  unfold Robot.placed
  split
  · next absent => simp [absent]
  · next enrolled => simp [enrolled]

theorem enroll_eq (k : RobotId) (r : RowId) (b : Block) :
    b.enroll k r = (b.modRow r fun y => { y with occupant := some k }).modRobot k fun w =>
      { w with
        mode := .idle, location := .rowEnd r
        stack := if w.mode = .absent ∧ b.storm = true then .park :: w.stack else w.stack
        order := if w.mode ≠ .absent ∧ w.order = .attend then .none else w.order } := by
  unfold Block.enroll
  rw [show Robot.placed b.storm r = _ from funext (Robot.placed_eq b.storm r)]

/-- The plan of a robot that stands IDLE at a cradle in a storm: it is found SAFE (R169, R171). -/
theorem planRobot_cradle {p : RowId} (storm : b.storm = true) (at' : (b.robot k).IdleAt p) (order : (b.robot k).order ≠ .brace)
    (cradle : (e.row p).cradle = true) :
    planRobot e k b = ((b.stand k .safe).modRobot k fun z => { z with parkWait := false }, []) := by
  have safe : inSafePlace e (b.robot k) = true := by simp only [inSafePlace, at'.2, cradle]
  have free : ¬ ((b.robot k).mode = .braced ∨ (b.robot k).order = .brace) := by simp [at'.1, order]
  unfold planRobot
  dsimp only
  rw [if_neg (by simp [storm]), if_neg free, if_pos safe]

/-- A robot with a PARK task on top that comes to rest at a cradle in a storm. -/
theorem restsAlone_cradle {p : RowId} (storm : b.storm = true) (at' : (b.robot k).IdleAt p) (order : (b.robot k).order ≠ .brace)
    (standing : (b.robot k).standing ≠ .safe) (deferred : (b.robot k).chargeDeferred = false)
    (park : (b.robot k).stack.head? = some .park) (cradle : (e.row p).cradle = true) :
    RestsAlone e k b (b.modRobot k fun z => { z with standing := .safe, outcome := .parked, parkWait := false }) := by
  refine restsAlone_planned (comesToRest_top deferred park) ⟨park, at'⟩ (.inl ?_)
  rw [planRobot_cradle storm at' order cradle, Block.stand, Block.modRobot_modRobot]
  exact ⟨rfl, Block.modRobot_congr (by rw [if_neg standing])⟩

/-! ## WITHDRAW (R51) -/

theorem withdraw_row (k : RobotId) (b : Block) (r : RowId) :
    (b.withdraw k).row r =
      if (b.robot k).location = .rowEnd r then { b.row r with occupant := none } else b.row r := by
  unfold Block.withdraw
  dsimp only
  rw [Block.modRobot_row]
  cases (b.robot k).location <;> simp
  split
  · next h => subst h; rfl
  · rfl

theorem withdraw_robot (k j : RobotId) (b : Block) :
    (b.withdraw k).robot j = if k = j then Robot.fresh else b.robot j := by
  unfold Block.withdraw
  dsimp only
  rw [Block.robot_modRobot]
  cases (b.robot k).location <;> rfl

theorem withdraw_frame (k : RobotId) (b : Block) :
    b.withdraw k = { b with rows := (b.withdraw k).rows, robots := (b.withdraw k).robots } := by
  unfold Block.withdraw
  dsimp only
  cases (b.robot k).location <;> rfl

/-- Settles O24: the checks by `enrollCheck_row`, the coming to rest by `finish_restsAlone`, and the cradle by
`restsAlone_cradle`. -/
theorem enrollAndWithdraw : Obligations.EnrollAndWithdraw := by
  unfold Obligations.EnrollAndWithdraw
  refine ⟨fun f robot k r s taken hk present => ?_, fun f robot k s taken hk => ⟨fun busy => ?_, fun idle empty => ?_⟩⟩
  · intro x z answer placeable free
    have refused (code : Code) (check : enrollCheck s.blk k r = some code) : answer code :=
      execEnroll_check taken hk present check
    have open' (unlocked : x.locked = none) : ¬ (s.blk.row r).locked.isSome = true := Option.not_isSome_iff_eq_none.mpr unlocked
    have empty (isFree : free) : ¬ (!(s.blk.row r).endFree) = true := by
      rw [(RowState.endFree_iff x).mpr isFree]
      exact Bool.false_ne_true
    have passes (ready : placeable) (unlocked : x.locked = none) (isFree : free)
        (own : x.reservedBy = none ∨ x.reservedBy = some k) : enrollCheck s.blk k r = none := by
      have unreserved : ¬ x.reservedByOther k = true := by
        rw [RowState.reservedByOther_iff]
        rintro ⟨j, reserved, other⟩
        obtain own | own := own <;> rw [own] at reserved <;> cases reserved
        exact other rfl
      rw [enrollCheck_row ready, if_neg (open' unlocked), if_neg (empty isFree), if_neg unreserved]
    refine ⟨fun placed => refused _ (enrollCheck_placed placed), fun ready locked => refused _ ?_,
      fun ready unlocked busy => refused _ ?_, fun j ready unlocked isFree reserved other => refused _ ?_,
      fun c ready unlocked isFree own rests => ?_, fun absent unlocked isFree own rests storm cradle order standing => ?_⟩
    · rw [enrollCheck_row ready, if_pos (Option.isSome_iff_ne_none.mpr locked)]
    · rw [enrollCheck_row ready, if_neg (open' unlocked), 
        if_pos (by simpa using mt (RowState.endFree_iff x).mp busy)]
    · rw [enrollCheck_row ready, if_neg (open' unlocked), if_neg (empty isFree),
        if_pos ((RowState.reservedByOther_iff x).mpr ⟨j, reserved, other⟩)]
    · rw [← enroll_eq] at rests
      exact execEnroll_accepted taken hk present (passes ready unlocked isFree own) rests
    · refine execEnroll_accepted taken hk present (passes (.inl absent) unlocked isFree own) ?_
      have alone : z.stack = [] := rests.2.elim id fun park => absurd park.2.2 (by simp [storm])
      have made : Robot.placed s.blk.storm r z = { z with mode := .idle, location := .rowEnd r, stack := [.park] } := by
        rw [Robot.placed, if_pos absent, if_pos storm, alone]
      have placed : (s.blk.enroll k r).robot k = { z with mode := .idle, location := .rowEnd r, stack := [.park] } := by
        rw [← made, Block.enroll, Block.robot_modRobot, if_pos rfl]
        rfl
      have safe := restsAlone_cradle (e := s.env) (k := k) (p := r) (b := s.blk.enroll k r) storm (by rw [placed]; exact ⟨rfl, rfl⟩)
        (by rw [placed]; exact order) (by rw [placed]; exact standing) (by rw [placed]; exact rests.1) (by rw [placed]; rfl) cradle
      rw [Block.enroll, Block.modRobot_modRobot] at safe
      rw [Block.enroll]
      convert safe using 1
      refine Block.modRobot_congr ?_
      show _ = { Robot.placed s.blk.storm r z with standing := .safe, outcome := .parked, parkWait := false }
      rw [made]
      rfl
  · unfold exec
    refine request_refused taken ?_
    rw [onRobot_inside hk, State.taken_blk, if_neg (by tauto)]
  · have served : exec (.withdraw f robot) s = .next { answered .withdraw f { code := .ok } s with blk := s.blk.withdraw k } := by
      unfold exec
      refine request_served taken ?_
      rw [onRobot_inside hk, State.taken_blk, if_pos ⟨idle, empty⟩]
    refine ⟨_, served, ?_, ?_, fun j hj => ?_, withdraw_row k s.blk⟩
    all_goals dsimp only
    · rw [withdraw_frame]
    · rw [withdraw_robot, if_pos rfl]
      rfl
    · rw [withdraw_robot, if_neg (Ne.symm hj)]

end Sys2Proof.Machine
end

section
/-! PROOF. The reports of a robot and the tests of its charge (R52 to R58): what the fault flag does, and the hand-ons of the push
test and the pop test. -/

namespace Sys2Proof.Machine

open Sys2Proof

variable {e : Env} {hold : Option ShuttleId} {due : Due} {b c d : Block} {k : RobotId} {u : ShuttleId} {p : RowId} {battery : Byte}
  {ack : Option RowId} {fault : Bool}

/-! ## The charge tests of a report (R56, R58) -/

/-- Where a robot that is not IDLE at a row end takes a charge push later (R56). -/
abbrev Robot.Defers (x : Robot) : Prop :=
  x.mode = .waitHold ∨ x.mode = .onRow ∨ x.mode = .waitTransfer ∨ x.mode = .carried ∨ (x.mode = .idle ∧ x.location = .unknown)

theorem chargePush_none (h : pushTest e b (b.robot k) = false) : chargePush e k b = (b, []) :=
  if_neg (Bool.eq_false_iff.mp h)

theorem chargePush_idle (push : pushTest e b (b.robot k) = true) (at' : (b.robot k).IdleAt p) :
    chargePush e k b = chargePlan e k (b.modRobot k fun z => { z with stack := .charge :: z.stack }) := by
  obtain ⟨mode, location⟩ := at'
  unfold chargePush
  dsimp only
  rw [if_pos push, mode, location]

theorem chargePush_defers (push : pushTest e b (b.robot k) = true) (defers : (b.robot k).Defers) :
    chargePush e k b = (b.modRobot k fun z => { z with chargeDeferred := true }, []) := by
  unfold chargePush
  dsimp only
  rw [if_pos push]
  obtain mode | mode | mode | mode | ⟨mode, location⟩ := defers
  iterate 4 rw [mode]
  rw [mode, location]

theorem chargePush_neither (elsewhere : ∀ p, ¬ (b.robot k).IdleAt p) (defers : ¬ (b.robot k).Defers) :
    chargePush e k b = (b, []) := by
  by_cases push : pushTest e b (b.robot k) = true
  · unfold chargePush
    dsimp only
    rw [if_pos push]
    cases mode : (b.robot k).mode
    case idle =>
      cases location : (b.robot k).location
      case rowEnd p => exact absurd ⟨mode, location⟩ (elsewhere p)
      case unknown => exact absurd (by simp [Robot.Defers, mode, location]) defers
      all_goals rfl
    case waitHold | onRow | waitTransfer | carried => exact absurd (by simp [Robot.Defers, mode]) defers
    all_goals rfl
  · exact chargePush_none (Bool.eq_false_iff.mpr push)

theorem chargePush_elsewhere (push : pushTest e b (b.robot k) = true) (elsewhere : ∀ p, ¬ (b.robot k).IdleAt p) :
    chargePush e k b =
      (b.modRobot k fun z => { z with chargeDeferred := if (b.robot k).Defers then true else z.chargeDeferred }, []) := by
  by_cases defers : (b.robot k).Defers
  · rw [chargePush_defers push defers]
    simp only [if_pos defers]
  · rw [chargePush_neither elsewhere defers]
    exact congrArg (·, []) (Block.modRobot_same (by rw [if_neg defers])).symm

/-- A robot that a fault takes down is not pushed (R56). -/
theorem chargePush_faulted (faulted : (b.robot k).mode = .faulted) : chargePush e k b = (b, []) :=
  chargePush_neither (fun p at' => by rw [at'.1] at faulted; cases faulted) (by simp [Robot.Defers, faulted])

theorem popTest_elsewhere {x : Robot} (h : x.mode ≠ .idle) : popTest e x = false :=
  Bool.eq_false_iff.mpr fun pops =>
    let ⟨_, at', _⟩ := (popTest_iff.mp pops).2
    h at'.1

theorem popTest_low {x : Robot} (h : x.battery < e.params.resumeLevel) : popTest e x = false :=
  Bool.eq_false_iff.mpr fun pops =>
    let ⟨_, _, _, charged⟩ := (popTest_iff.mp pops).2
    absurd charged (by omega)

/-- The tests of a report where the push gives no hand-on and nothing is popped. -/
theorem runs_tests (push : chargePush e k b = (c, [])) (pop : popTest e (c.robot k) = false) :
    Runs e hold 2 due [.chargePush k, .chargePop k] b due c :=
  (Runs.single (t := .chargePush k) rfl push).append (.single (t := .chargePop k) rfl (if_neg (Bool.eq_false_iff.mp pop)))

/-- The tests of a report that pushes a CHARGE task and makes its plan (R56, R57). -/
theorem runs_tests_charge (push : pushTest e b (b.robot k) = true) (at' : (b.robot k).IdleAt p)
    (planned : ChargePlanned e hold k p (b.modRobot k fun z => { z with stack := .charge :: z.stack }) c)
    (low : (b.robot k).battery < e.params.resumeLevel) : Runs e hold 11 due [.chargePush k, .chargePop k] b due c := by
  have pushed : ((b.modRobot k fun z => { z with stack := .charge :: z.stack }).robot k).IdleAt p := by simpa using at'
  have battery : (c.robot k).battery = (b.robot k).battery := planned.stays.battery.trans (by simp)
  refine Runs.append (n := 10) (ts := [.chargePush k]) (c := c) (Runs.handled rfl ?_) (.single (t := .chargePop k) rfl ?_)
  · simp only [handle, chargePush_idle push at']
    exact runs_chargePlan pushed planned
  · exact if_neg (Bool.eq_false_iff.mp (popTest_low (battery ▸ low)))

/-- The tests of a report that pops a CHARGE task (R58, R59). -/
theorem runs_tests_pop (push : pushTest e b (b.robot k) = false) (pops : popTest e (b.robot k) = true)
    (gives : GivesTop e hold k (b.modRobot k fun z => { z with stack := z.stack.tail }) c) :
    Runs e hold 17 due [.chargePush k, .chargePop k] b (due.given k c) c := by
  refine Runs.append (n := 1) (m := 16) (ts := [.chargePush k]) (.single rfl (chargePush_none push)) (Runs.handled (n := 15) rfl ?_)
  rw [show handle e (.chargePop k) b = _ from if_pos pops]
  exact runs_giveTop gives

/-! ## The fault flag (R53 to R55) -/

/-- The report's battery and acknowledged GO are taken (R52). -/
def Block.told (k : RobotId) (battery : Byte) (ack : Option RowId) (b : Block) : Block := b.modRobot k (Robot.report battery ack)

theorem Block.told_robot : (b.told k battery ack).robot k = (b.robot k).report battery ack := by simp [Block.told]

/-- A report's event: the fault flag, and then the tests of the charge (R52). -/
theorem robotReport_eq {h : List HandOn}
    (flag : (if fault then faultReport k (b.told k battery ack) else clearReport k (b.told k battery ack)) = (c, h)) :
    b.robotReport k battery fault ack = (c, h ++ [.chargePush k, .chargePop k]) := by
  unfold Block.told at flag
  unfold Block.robotReport
  dsimp only
  rw [flag]

/-- A clear flag changes nothing of a robot that is neither FAULTED nor BRACED (R55). -/
theorem clearReport_quiet (faulted : (b.robot k).mode ≠ .faulted) (braced : (b.robot k).mode ≠ .braced) :
    clearReport k b = (b, []) := by
  unfold clearReport
  split
  · contradiction
  · contradiction
  all_goals rfl

theorem foldl_unreserve (l : List Entry) (b : Block) :
    let c := l.foldl (fun c x => c.unreserve x.row) b
    c = { b with rows := c.rows } ∧ ∀ r, c.row r = { b.row r with
      reservedBy := if ∃ x ∈ l, x.row = r then none else (b.row r).reservedBy } := by
  induction l generalizing b with
  | nil => exact ⟨rfl, fun r => by simp⟩
  | cons x xs ih =>
    obtain ⟨frame, row⟩ := ih (b.unreserve x.row)
    refine ⟨frame, fun r => ?_⟩
    rw [List.foldl_cons, row, Block.unreserve, Block.row_modRow]
    by_cases hx : x.row = r
    · subst hx
      simp
    · simp [hx]

theorem Entry.isOpen_iff (x : Entry) : x.isOpen = true ↔ x.Open := by simp [Entry.isOpen]

/-- The round's open entries have the rows of it (R54). -/
abbrev Robot.Opened (x : Robot) (r : RowId) : Prop := ∃ rd, x.round = some rd ∧ ∃ y ∈ rd.entries, y.row = r ∧ y.Open

theorem Robot.round_none {x : Robot} (h : x.round = none) : (x.stack.filter fun t => !t.isRound) = x.stack := by
  refine List.filter_eq_self.mpr fun t ht => ?_
  have := List.findSome?_eq_none_iff.mp h t ht
  cases t with
  | round rd => cases this
  | charge => rfl
  | park => rfl

/-- The robot's record after the discard of its round (R54). -/
def Robot.discarded (x : Robot) : Robot :=
  { x with
    stack := x.stack.filter fun t => !t.isRound
    outcome := if x.round.isSome then .roundDiscarded else x.outcome }

theorem discardRound_spec (k : RobotId) (b : Block) :
    b.discardRound k = { b.modRobot k Robot.discarded with rows := (b.discardRound k).rows }
      ∧ ∀ r, (b.discardRound k).row r = { b.row r with
          reservedBy := if (b.robot k).Opened r then none else (b.row r).reservedBy } := by
  obtain round | ⟨rd, round⟩ := (b.robot k).round.eq_none_or_eq_some
  · have still : b.discardRound k = b := by simp only [Block.discardRound, round]
    have same : b.modRobot k Robot.discarded = b :=
      Block.modRobot_same (by rw [Robot.discarded, Robot.round_none round, round]; rfl)
    rw [still, same]
    refine ⟨rfl, fun r => ?_⟩
    rw [if_neg (by simp [Robot.Opened, round])]
  · have made : b.discardRound k = (b.releaseOpen rd).modRobot k Robot.discarded := by
      obtain ⟨frame, -⟩ := foldl_unreserve (rd.entries.filter Entry.isOpen) b
      have robot : (b.releaseOpen rd).robot k = b.robot k := by rw [Block.releaseOpen, frame]; rfl
      simp only [Block.discardRound, round]
      exact Block.modRobot_congr (by rw [Robot.discarded, robot, round]; rfl)
    obtain ⟨frame, row⟩ := foldl_unreserve (rd.entries.filter Entry.isOpen) b
    rw [made]
    refine ⟨?_, fun r => ?_⟩
    · rw [Block.releaseOpen, frame]
      rfl
    · have opened : (∃ x ∈ rd.entries.filter Entry.isOpen, x.row = r) ↔ (b.robot k).Opened r := by
        simp [Robot.Opened, round, Entry.isOpen_iff, and_assoc, and_left_comm, and_comm]
      rw [Block.modRobot_row, Block.releaseOpen, row]
      dsimp only
      rw [if_congr opened rfl rfl]

/-- The robot's record after a new fault, its round discarded (R53, R54). -/
def Robot.takenDown (x : Robot) : Robot :=
  { x with
    mode := .faulted, chargeDeferred := false, chargeWait := false
    stack := x.stack.filter fun t => !t.isRound
    outcome := if x.round.isSome then .roundDiscarded else x.outcome }

/-- A new fault takes the robot down and releases the rows of its round's open entries, before its QUEUED transfer is removed
(R53, R54). -/
theorem takeDown_spec (k : RobotId) (b : Block) :
    let c := (b.modRobot k fun x => { x with mode := .faulted, chargeDeferred := false, chargeWait := false }).discardRound k
    c = { b.modRobot k Robot.takenDown with rows := c.rows }
      ∧ ∀ r, c.row r = { b.row r with reservedBy := if (b.robot k).Opened r then none else (b.row r).reservedBy } := by
  obtain ⟨frame, row⟩ :=
    discardRound_spec k (b.modRobot k fun x => { x with mode := .faulted, chargeDeferred := false, chargeWait := false })
  dsimp only
  refine ⟨?_, fun r => ?_⟩
  · rw [frame, Block.modRobot_modRobot]
    rfl
  · rw [row, Block.robot_modRobot, if_pos rfl]
    rfl

theorem faultReport_new (present : (b.robot k).mode ≠ .absent) (sound : (b.robot k).mode ≠ .faulted)
    (unbraced : (b.robot k).mode ≠ .braced) :
    faultReport k b =
      ((b.modRobot k fun x => { x with mode := .faulted, chargeDeferred := false, chargeWait := false }).discardRound
        k).removeQueued k := by
  unfold faultReport
  cases mode : (b.robot k).mode
  case absent | faulted | braced => contradiction
  all_goals rfl

/-- A robot with no QUEUED transfer keeps the one it has (R53). -/
theorem removeQueued_none (h : ∀ u t, t ∈ (b.shuttle u).queue → t.step = .queued → (b.robot k).transfer ≠ some t.tag) :
    b.removeQueued k = (b, []) := by
  unfold Block.removeQueued
  split
  · next u t found =>
    obtain ⟨tag, transfer, record⟩ := Option.bind_eq_some_iff.mp found
    obtain ⟨mem, rfl⟩ := recordOf_some record
    exact if_neg fun queued => h u t mem queued transfer
  · rfl

/-- The record of a tag that one shuttle's queue alone bears, and once. -/
theorem recordOf_unique {t : Transfer} {before after : List Transfer} (queue : (b.shuttle u).queue = before ++ t :: after)
    (unique : ∀ y ∈ before ++ after, y.tag ≠ t.tag) (alone : ∀ v, v ≠ u → t.tag ∉ (b.shuttle v).queue.map Transfer.tag) :
    b.recordOf t.tag = some (u, t) := by
  have mem : t ∈ (b.shuttle u).queue := by rw [queue]; simp
  cases found : b.recordOf t.tag with
  | none =>
    have none' := List.findSome?_eq_none_iff.mp found u (List.mem_finRange u)
    have missing := List.find?_eq_none.mp (Option.map_eq_none_iff.mp none') t mem
    simp at missing
  | some x =>
    obtain ⟨v, y⟩ := x
    obtain ⟨hy, tag⟩ := recordOf_some found
    obtain rfl : v = u := by
      by_contra other
      exact alone v other (tag ▸ List.mem_map_of_mem hy)
    rw [queue] at hy
    obtain rfl : y = t := by
      by_contra other
      exact unique y (by simp only [List.mem_append, List.mem_cons] at hy ⊢; tauto) tag
    rfl

/-- A new fault's QUEUED transfer is removed, and its shuttle, which takes no work now, is offered none (R53, R77). -/
theorem removeQueued_some {t : Transfer} {before after : List Transfer} (queue : (b.shuttle u).queue = before ++ t :: after)
    (queued : t.step = .queued) (transfer : (b.robot k).transfer = some t.tag)
    (unique : ∀ y ∈ before ++ after, y.tag ≠ t.tag) (alone : ∀ v, v ≠ u → t.tag ∉ (b.shuttle v).queue.map Transfer.tag) :
    b.removeQueued k = (b.removeRecord u t, [.offer u]) := by
  unfold Block.removeQueued
  rw [transfer, Option.bind_some, recordOf_unique queue unique alone]
  exact if_pos queued

/-- The state in which a robot leaves FAULTED (R55). -/
theorem recoveredMode_eq (k : RobotId) (b : Block) :
    b.recoveredMode k =
      let waits := ∃ r, (b.row r).holder = some k ∧ (b.row r).tracker = .holdPending
      match (b.robot k).location with
      | .onRow _ => .onRow
      | .carried _ => if waits then .waitHold else .carried
      | _ => if waits then .waitHold else if (b.robot k).transfer.isSome then .waitTransfer else .idle := by
  have pending : (allRows.any fun r => (b.row r).holder == some k && (b.row r).tracker == .holdPending) = true ↔
      ∃ r, (b.row r).holder = some k ∧ (b.row r).tracker = .holdPending := by simp [allRows]
  unfold Block.recoveredMode
  simp only [pending]
  cases (b.robot k).location <;> rfl

end Sys2Proof.Machine
end

section
/-! PROOF. ROBOT STATUS (R52): what each report comes to, by the robot's state and the tests of its charge. -/

namespace Sys2Proof.Machine

open Sys2Proof

variable {s : State} {f : Frame} {e : Env} {b c d : Block} {k : RobotId} {u : ShuttleId} {p : RowId} {robot battery : Byte}
  {ack : Option RowId} {fault : Bool}

theorem execRobotStatus_absent (taken : Taken .robotStatus f s) (hk : robot.toNat = k.val)
    (absent : (s.blk.robot k).mode = .absent) :
    exec (.robotStatus f robot battery fault ack) s = .next (answered .robotStatus f { code := .state } s) := by
  unfold exec
  refine request_refused taken ?_
  rw [onRobot_inside hk, State.taken_blk, if_pos absent]

theorem execRobotStatus_ends (taken : Taken .robotStatus f s) (hk : robot.toNat = k.val)
    (present : (s.blk.robot k).mode ≠ .absent) (ends : Handed.finish s.env (s.blk.robotReport k battery fault ack) = some c) :
    exec (.robotStatus f robot battery fault ack) s = .next { answered .robotStatus f { code := .ok } s with blk := c } := by
  unfold exec
  refine request_finished taken ?_ ends
  rw [onRobot_inside hk, State.taken_blk, if_neg present]

/-- An event in which robot `k` is given its top task at `c`, and which has ended at `c'` but for the robot's plan (R168). -/
theorem finish_given {n : Nat} {ts : List HandOn} {c' : Block}
    (run : Runs e none n (.plans []) ts b ((Due.plans []).given k c) c') (fuel : n < 900)
    (plan : c.ToPlan k → Planned e none k c' d) (still : ¬ c.ToPlan k → d = c') : Handed.finish e (b, ts) = some d := by
  by_cases h : c.ToPlan k
  · rw [Due.given_of h] at run
    exact run.finish_plan (runs_planRobot (plan h)) (by omega)
  · rw [Due.given_not h] at run
    rw [still h]
    exact run.finish (by omega)

/-- Outside a storm no robot is planned (R168). -/
theorem planned_calm (h : b.storm = false) : Planned e none k b b :=
  .inl ⟨by simp [planRobot, h], by simp [planRobot, h]⟩

/-! ## Reports that change the robot's own record only -/

/-- A clear flag clears the pending fault of a BRACED robot, and changes nothing else of one that is not FAULTED (R55). -/
theorem clearReport_sound (sound : (b.robot k).mode ≠ .faulted) :
    clearReport k b = (b.modRobot k fun x => { x with faultPending := x.faultPending && x.mode != .braced }, []) := by
  by_cases braced : (b.robot k).mode = .braced
  · unfold clearReport
    rw [braced]
    exact congrArg (·, []) (Block.modRobot_congr (by simp [braced]))
  · rw [clearReport_quiet sound braced, Block.modRobot_same]
    have other : ((b.robot k).mode != .braced) = true := bne_iff_ne.mpr braced
    rw [other, Bool.and_true]

/-- A report that gives no hand-on of its own, with nothing to push or to pop. -/
theorem finish_quiet
    (flag : (if fault then faultReport k (b.told k battery ack) else clearReport k (b.told k battery ack)) = (c, []))
    (push : chargePush e k c = (d, [])) (pop : popTest e (d.robot k) = false) :
    Handed.finish e (b.robotReport k battery fault ack) = some d := by
  rw [robotReport_eq flag]
  exact (runs_tests push pop).finish (by omega)

theorem told_eq : b.told k battery ack = b.modRobot k fun _ => (b.robot k).report battery ack := Block.modRobot_congr rfl

/-- The flag is clear, and the robot not FAULTED (R55). -/
theorem report_clear (sound : (b.robot k).mode ≠ .faulted) (push : pushTest e b ((b.robot k).report battery ack) = false)
    (pop : popTest e ((b.robot k).report battery ack) = false) :
    Handed.finish e (b.robotReport k battery false ack) = some (b.modRobot k fun _ =>
      { (b.robot k).report battery ack with faultPending := (b.robot k).faultPending && (b.robot k).mode != .braced }) := by
  have flag := clearReport_sound (b := b.told k battery ack) (k := k) (by rw [Block.told_robot]; exact sound)
  rw [told_eq, Block.modRobot_modRobot] at flag
  refine finish_quiet (by rw [if_neg Bool.false_ne_true, told_eq]; exact flag) (chargePush_none ?_) ?_
  · rw [Block.robot_modRobot, if_pos rfl]
    exact push
  · rw [Block.robot_modRobot, if_pos rfl]
    exact pop

/-- The flag is set, and the robot is FAULTED already (R53). -/
theorem report_faulted (faulted : (b.robot k).mode = .faulted) :
    Handed.finish e (b.robotReport k battery true ack) = some (b.modRobot k fun _ => (b.robot k).report battery ack) := by
  have mode : ((b.told k battery ack).robot k).mode = .faulted := by rw [Block.told_robot]; exact faulted
  rw [← told_eq]
  refine finish_quiet (c := b.told k battery ack) ?_ (chargePush_faulted mode) (popTest_elsewhere (by rw [mode]; nofun))
  rw [if_pos rfl, faultReport, mode]

/-- The flag is set, and the robot is BRACED (R53). -/
theorem report_braced (braced : (b.robot k).mode = .braced) (push : pushTest e b ((b.robot k).report battery ack) = false) :
    Handed.finish e (b.robotReport k battery true ack) =
      some (b.modRobot k fun _ => { (b.robot k).report battery ack with faultPending := true }) := by
  have mode : ((b.told k battery ack).robot k).mode = .braced := by rw [Block.told_robot]; exact braced
  refine finish_quiet ?_ (chargePush_none ?_) (popTest_elsewhere ?_)
  · rw [if_pos rfl, faultReport, mode, told_eq, Block.modRobot_modRobot]
  · rw [Block.robot_modRobot, if_pos rfl]
    exact push
  · rw [Block.robot_modRobot, if_pos rfl]
    exact ne_of_eq_of_ne braced nofun

/-! ## A robot that recovers (R55) -/

/-- The block in which a FAULTED robot has left FAULTED, before it comes to rest (R55). -/
def Block.recoveredAt (k : RobotId) (battery : Byte) (ack : Option RowId) (b : Block) : Block :=
  b.modRobot k fun _ => { (b.robot k).report battery ack with mode := b.recoveredMode k }

theorem recoveredAt_robot :
    (b.recoveredAt k battery ack).robot k = { (b.robot k).report battery ack with mode := b.recoveredMode k } := by
  rw [Block.recoveredAt, Block.robot_modRobot, if_pos rfl]

theorem clearReport_recovers (faulted : (b.robot k).mode = .faulted) :
    clearReport k (b.told k battery ack) = (b.recoveredAt k battery ack, [.rest k]) := by
  have mode : ((b.told k battery ack).robot k).mode = .faulted := by rw [Block.told_robot]; exact faulted
  have recovers : (b.told k battery ack).recoveredMode k = b.recoveredMode k := by
    rw [recoveredMode_eq, recoveredMode_eq, Block.told_robot]
    rfl
  rw [clearReport, mode, recovers, told_eq, Block.modRobot_modRobot]
  rfl

theorem robotReport_recovers (faulted : (b.robot k).mode = .faulted) :
    b.robotReport k battery false ack = (b.recoveredAt k battery ack, [.rest k, .chargePush k, .chargePop k]) :=
  robotReport_eq ((if_neg Bool.false_ne_true).trans (clearReport_recovers faulted))

/-- A robot that recovers comes to rest with nothing to push: it is planned alone where a PARK task is on top (R44, R168). -/
theorem report_recovers (faulted : (b.robot k).mode = .faulted) (rests : ComesToRest e none k (b.recoveredAt k battery ack) c)
    (push : pushTest e c (c.robot k) = false) (plan : c.ToPlan k → Planned e none k c d) (still : ¬ c.ToPlan k → d = c) :
    Handed.finish e (b.robotReport k battery false ack) = some d := by
  rw [robotReport_recovers faulted]
  have tests := runs_tests (hold := none) (due := (Due.plans []).given k c) (chargePush_none push) rests.ends.2
  exact finish_given ((runs_rest rests).append tests) (by omega) plan still

/-- A robot that recovers with a low battery, and not at a row end, has its push deferred, if anything (R56). -/
theorem report_recovers_deferred (faulted : (b.robot k).mode = .faulted)
    (rests : ComesToRest e none k (b.recoveredAt k battery ack) c) (push : pushTest e c (c.robot k) = true)
    (elsewhere : ∀ p, ¬ (c.robot k).IdleAt p) :
    Handed.finish e (b.robotReport k battery false ack) = some
      (c.modRobot k fun z => { z with chargeDeferred := if (c.robot k).Defers then true else z.chargeDeferred }) := by
  rw [robotReport_recovers faulted]
  have charge := (pushTest_iff.mp push).2.2
  have tests := runs_tests (hold := none) (due := (Due.plans []).given k c) (chargePush_elsewhere push elsewhere)
    (popTest_top fun top => charge (List.mem_of_mem_head? (by simpa using top)))
  have run := (runs_rest rests).append tests
  rw [Due.given_not fun plan => not_exists.mpr elsewhere plan.2] at run
  exact run.finish (by omega)

/-- A robot that recovers at a row end with a low battery takes a CHARGE task, and its plan at once (R56, R57). -/
theorem report_recovers_charge (faulted : (b.robot k).mode = .faulted)
    (rests : ComesToRest e none k (b.recoveredAt k battery ack) c) (push : pushTest e c (c.robot k) = true)
    (low : (c.robot k).battery < e.params.resumeLevel) (at' : (c.robot k).IdleAt p)
    (planned : ChargePlanned e none k p (c.modRobot k fun z => { z with stack := .charge :: z.stack }) d) :
    Handed.finish e (b.robotReport k battery false ack) = some d := by
  rw [robotReport_recovers faulted]
  have tests := runs_tests_charge (due := (Due.plans []).given k c) push at' planned low
  have calm : d.storm = false := by
    have weather : d.weather = c.weather := planned.stays.weather
    rw [Block.storm, weather]
    obtain h | h := (pushTest_iff.mp push).2.1 <;> rw [h] <;> rfl
  exact finish_given ((runs_rest rests).append tests) (by omega) (fun _ => planned_calm calm) fun _ => rfl

/-! ## A new fault (R53, R54, R77) -/

/-- The block that a new fault leaves, but for the robot's transfer (R53, R54). -/
def Block.faultedAt (k : RobotId) (battery : Byte) (ack : Option RowId) (b : Block) : Block :=
  ((b.told k battery ack).modRobot k fun x => { x with mode := .faulted, chargeDeferred := false, chargeWait := false }).discardRound
    k

theorem faultedAt_frame :
    b.faultedAt k battery ack = { b.modRobot k (fun _ => ((b.robot k).report battery ack).takenDown) with
      rows := (b.faultedAt k battery ack).rows } := by
  have frame := (takeDown_spec k (b.told k battery ack)).1
  dsimp only at frame
  rw [Block.faultedAt, frame, told_eq, Block.modRobot_modRobot]

theorem faultedAt_row (r : RowId) :
    (b.faultedAt k battery ack).row r = { b.row r with
      reservedBy := if (b.robot k).Opened r then none else (b.row r).reservedBy } := by
  have row := (takeDown_spec k (b.told k battery ack)).2 r
  rw [Block.told_robot] at row
  exact row

theorem faultedAt_robot : (b.faultedAt k battery ack).robot k = ((b.robot k).report battery ack).takenDown := by
  rw [faultedAt_frame]
  exact (Block.robot_modRobot b k _ k).trans (if_pos rfl)

theorem faultedAt_shuttle : (b.faultedAt k battery ack).shuttle u = b.shuttle u := by
  rw [faultedAt_frame]
  rfl

theorem robotReport_fault {h : List HandOn} (present : (b.robot k).mode ≠ .absent) (sound : (b.robot k).mode ≠ .faulted)
    (unbraced : (b.robot k).mode ≠ .braced) (removed : (b.faultedAt k battery ack).removeQueued k = (c, h)) :
    b.robotReport k battery true ack = (c, h ++ [.chargePush k, .chargePop k]) := by
  have report := faultReport_new (b := b.told k battery ack) (k := k) (by rw [Block.told_robot]; exact present)
    (by rw [Block.told_robot]; exact sound) (by rw [Block.told_robot]; exact unbraced)
  exact robotReport_eq ((if_pos rfl).trans (report.trans removed))

/-- The tests of the charge do nothing to a robot that a fault has taken down. -/
theorem runs_tests_faulted {hold : Option ShuttleId} {due : Due} (faulted : (c.robot k).mode = .faulted) :
    Runs e hold 2 due [.chargePush k, .chargePop k] c due c :=
  runs_tests (chargePush_faulted faulted) (popTest_elsewhere (by rw [faulted]; nofun))

/-- A new fault of a robot with no QUEUED transfer. -/
theorem report_fault (present : (b.robot k).mode ≠ .absent) (sound : (b.robot k).mode ≠ .faulted)
    (unbraced : (b.robot k).mode ≠ .braced)
    (none' : ∀ u t, t ∈ (b.shuttle u).queue → t.step = .queued → (b.robot k).transfer ≠ some t.tag) :
    Handed.finish e (b.robotReport k battery true ack) = some (b.faultedAt k battery ack) := by
  have kept : (b.faultedAt k battery ack).removeQueued k = (b.faultedAt k battery ack, []) := by
    refine removeQueued_none fun u t mem queued => ?_
    rw [faultedAt_shuttle] at mem
    rw [faultedAt_robot]
    exact none' u t mem queued
  rw [robotReport_fault present sound unbraced kept]
  exact (runs_tests_faulted (by rw [faultedAt_robot]; rfl)).finish (by omega)

theorem destReleased_shuttle (t : Transfer) (b : Block) (v : ShuttleId) : (b.destReleased t).shuttle v = b.shuttle v := by
  unfold Block.destReleased
  split <;> rfl

theorem destReleased_robot (t : Transfer) (b : Block) (j : RobotId) : (b.destReleased t).robot j = b.robot j := by
  unfold Block.destReleased
  split <;> rfl

/-- A new fault of a robot with a QUEUED transfer on a shuttle that takes no work now (R77). -/
theorem report_fault_queued {t : Transfer} {before after : List Transfer} (present : (b.robot k).mode ≠ .absent)
    (sound : (b.robot k).mode ≠ .faulted) (unbraced : (b.robot k).mode ≠ .braced)
    (queue : (b.shuttle u).queue = before ++ t :: after) (queued : t.step = .queued) (own : t.robot = k)
    (transfer : (b.robot k).transfer = some t.tag) (unique : ∀ y ∈ before ++ after, y.tag ≠ t.tag)
    (alone : ∀ v, v ≠ u → t.tag ∉ (b.shuttle v).queue.map Transfer.tag) (waits : (b.shuttle u).current ≠ some t.tag)
    (busy : b.Occupied u) :
    Handed.finish e (b.robotReport k battery true ack) = some
      ((((b.faultedAt k battery ack).modShuttle u fun y => { y with queue := before ++ after }).destReleased t).modRobot k
        fun z => { z with transfer := none }) := by
  have shuttle (v : ShuttleId) : (b.faultedAt k battery ack).shuttle v = b.shuttle v := faultedAt_shuttle
  have robot : (b.faultedAt k battery ack).robot k = ((b.robot k).report battery ack).takenDown := faultedAt_robot
  have report := robotReport_fault (battery := battery) (ack := ack) present sound unbraced (removeQueued_some (u := u)
    (by rw [shuttle]; exact queue) queued (by rw [robot]; exact transfer) unique fun v hv => by rw [shuttle]; exact alone v hv)
  have record := removeRecord_queued (b := b.faultedAt k battery ack) (u := u) queued (by rw [shuttle]; exact waits)
    (filter_tag_ne (by rw [shuttle]; exact queue) unique)
  have same : (b.faultedAt k battery ack).removeRecord u t =
      (((b.faultedAt k battery ack).modShuttle u fun y => { y with queue := before ++ after }).destReleased t).modRobot k
        fun z => { z with transfer := none } := by
    rw [record, own]
    refine Block.modRobot_congr ?_
    rw [destReleased_robot, Block.modShuttle_robot, robot]
    cases t.source <;> rfl
  rw [report, same]
  refine ((Runs.offer_passed (.inr ?_)).append (runs_tests_faulted ?_)).finish (by omega)
  · rw [Block.Occupied, Block.modRobot_shuttle, destReleased_shuttle, Block.shuttle_modShuttle, if_pos rfl, shuttle]
    exact busy
  · rw [Block.robot_modRobot, if_pos rfl, destReleased_robot, Block.modShuttle_robot, robot]
    rfl

/-! ## A low battery (R56, R57) -/

/-- A low battery of a robot that is not at a row end (R56). -/
theorem report_low_deferred (sound : (b.robot k).mode ≠ .faulted) (unbraced : (b.robot k).mode ≠ .braced)
    (push : pushTest e b ((b.robot k).report battery ack) = true) (defers : (b.robot k).Defers) :
    Handed.finish e (b.robotReport k battery false ack) =
      some (b.modRobot k fun _ => { (b.robot k).report battery ack with chargeDeferred := true }) := by
  have robot := Block.told_robot (b := b) (k := k) (battery := battery) (ack := ack)
  have quiet := clearReport_quiet (b := b.told k battery ack) (k := k) (by rw [robot]; exact sound) (by rw [robot]; exact unbraced)
  have pushed := chargePush_defers (e := e) (b := b.told k battery ack) (k := k) (by rw [robot]; exact push)
    (by rw [robot]; exact defers)
  rw [told_eq, Block.modRobot_modRobot, ← told_eq] at pushed
  refine finish_quiet ((if_neg Bool.false_ne_true).trans quiet) pushed (popTest_top ?_)
  rw [Block.robot_modRobot, if_pos rfl]
  exact fun top => (pushTest_iff.mp push).2.2 (List.mem_of_mem_head? top)

/-- A low battery of a robot IDLE at a row end (R56, R57). -/
theorem report_low_charge (at' : (b.robot k).IdleAt p) (push : pushTest e b ((b.robot k).report battery ack) = true)
    (low : ((b.robot k).report battery ack).battery < e.params.resumeLevel)
    (planned : ChargePlanned e none k p
      (b.modRobot k fun _ => { (b.robot k).report battery ack with stack := .charge :: (b.robot k).stack }) c) :
    Handed.finish e (b.robotReport k battery false ack) = some c := by
  have robot := Block.told_robot (b := b) (k := k) (battery := battery) (ack := ack)
  have quiet := clearReport_quiet (b := b.told k battery ack) (k := k) (by rw [robot]; exact ne_of_eq_of_ne at'.1 nofun)
    (by rw [robot]; exact ne_of_eq_of_ne at'.1 nofun)
  rw [robotReport_eq ((if_neg Bool.false_ne_true).trans quiet)]
  refine (runs_tests_charge (p := p) (by rw [robot]; exact push) (by rw [robot]; exact at') ?_ (by rw [robot]; exact low)).finish
    (by omega)
  rw [told_eq, Block.modRobot_modRobot]
  exact planned

/-- At the resume level the CHARGE task at a cradle is popped, and the task beneath it is given the robot (R58, R59). -/
theorem report_pops {below : List RobotTask} (at' : (b.robot k).IdleAt p)
    (charged : (e.row p).cradle = true ∧ e.params.resumeLevel ≤ ((b.robot k).report battery ack).battery)
    (top : (b.robot k).stack = .charge :: below)
    (gives : GivesTop e none k (b.modRobot k fun _ => { (b.robot k).report battery ack with stack := below }) c)
    (unparked : (c.robot k).stack.head? ≠ some .park) : Handed.finish e (b.robotReport k battery false ack) = some c := by
  have robot := Block.told_robot (b := b) (k := k) (battery := battery) (ack := ack)
  have quiet := clearReport_quiet (b := b.told k battery ack) (k := k) (by rw [robot]; exact ne_of_eq_of_ne at'.1 nofun)
    (by rw [robot]; exact ne_of_eq_of_ne at'.1 nofun)
  have stack : ((b.robot k).report battery ack).stack = .charge :: below := top
  have holds : pushTest e (b.told k battery ack) ((b.told k battery ack).robot k) = false := by
    refine Bool.eq_false_iff.mpr fun push => (pushTest_iff.mp push).2.2 ?_
    rw [robot, stack]
    exact List.mem_cons_self
  have pops : popTest e ((b.told k battery ack).robot k) = true := by
    rw [robot]
    exact popTest_iff.mpr ⟨by rw [stack]; rfl, p, at', charged⟩
  have popped : ((b.told k battery ack).modRobot k fun z => { z with stack := z.stack.tail })
      = b.modRobot k fun _ => { (b.robot k).report battery ack with stack := below } := by
    rw [told_eq, Block.modRobot_modRobot]
    exact Block.modRobot_congr (by rw [stack]; rfl)
  rw [robotReport_eq ((if_neg Bool.false_ne_true).trans quiet)]
  have run := runs_tests_pop (hold := none) (due := .plans []) holds pops (popped ▸ gives)
  rw [Due.given_top unparked] at run
  exact run.finish (by omega)

end Sys2Proof.Machine
end

section
/-! PROOF. The transfer to a cradle that the charge plan asks for (R57, R66, R67), and ROBOT STATUS (R52 to R59). -/

namespace Sys2Proof.Machine

open Sys2Proof

variable {e : Env} {b c d : Block} {k : RobotId} {u : ShuttleId} {p q : RowId}

/-! ## The transfer to a cradle (R57, R66, R67) -/

theorem freeTag_lowest {tag : Tag} (h : b.LowestFree tag) : b.freeTag = some tag := by
  have used (t : Tag) : t ∈ b.usedTags ↔ ∃ v, t ∈ (b.shuttle v).queue.map Transfer.tag := mem_usedTags
  have free : tag ∉ b.usedTags := fun h' => let ⟨v, hv⟩ := (used tag).mp h'; h.1 v hv
  cases found : b.freeTag with
  | none =>
    have := List.find?_eq_none.mp found tag (List.mem_finRange tag)
    simp [free] at this
  | some t =>
    obtain ⟨-, before, after, split, skipped⟩ := List.find?_eq_some_iff_append.mp found
    have sorted := split ▸ List.pairwise_lt_finRange 32
    have mem : tag ∈ before ++ t :: after := split ▸ List.mem_finRange tag
    obtain mem | mem := List.mem_append.mp mem
    · exact absurd (skipped tag mem) (by simp [free])
    · obtain rfl | later := List.mem_cons.mp mem
      · rfl
      · have lower := (List.pairwise_cons.mp (List.pairwise_append.mp sorted).2.1).1 tag later
        exact absurd ((used t).mpr (h.2 t lower)) (freeTag_unused found)

/-- The acceptance test of a transfer from a row end that is no cradle to an open cradle of its shuttle's range (R66). -/
theorem transferCheck_cradle (at' : (b.robot k).IdleAt p) (plain : ¬ (e.row p).cradle = true) (via : (e.row p).shuttle = some u)
    (cradle : b.CradleFor e u q) :
    transferCheck e b .charge k (.rowEnd q) =
      if (b.robot k).transfer.isSome then .error .state
      else if (b.shuttle u).mode = .faulted then .error .noRoute
      else if 8 ≤ (b.shuttle u).queue.length then .error .full
      else match b.freeTag with
        | some t => .ok (.rowEnd p, u, t)
        | none => .error .full := by
  obtain ⟨present, isCradle, own, occupant, reservation, holder, reservedBy, locked⟩ := cradle
  have other : ((b.robot k).location == .rowEnd q) = false := by
    rw [at'.2, beq_eq_false_iff_ne]
    rintro h
    cases h
    exact plain isCradle
  have source : transferSource e (b.robot k) = some (.rowEnd p, some u) := by
    simp only [transferSource, at'.1, at'.2, via]
  have free : (b.row q).endFree = true := (RowState.endFree_iff _).mpr ⟨occupant, reservation, holder⟩
  have unreserved : (b.row q).reservedByOther k = false := by simp only [RowState.reservedByOther, reservedBy]
  unfold transferCheck routeCheck
  simp only [destPresent, present, source, ownPlace, other, own, locked, free, unreserved]
  by_cases has : (b.robot k).transfer.isSome = true
  · simp [has]
  · by_cases faulted : (b.shuttle u).mode = .faulted
    · simp [has, faulted, Except.map]
    · by_cases full : 8 ≤ (b.shuttle u).queue.length
      · simp [has, faulted, full, Except.map]
      · simp [has, faulted, full]
        cases b.freeTag <;> rfl

/-- The charge plan waits when its transfer is refused (R57). -/
theorem chargePlanned_refused {hold : Option ShuttleId} (at' : (b.robot k).IdleAt p) (plain : ¬ (e.row p).cradle = true)
    (via : (e.row p).shuttle = some u) (near : b.NearestCradle e u p q)
    (refused : (b.shuttle u).mode = .faulted ∨ 8 ≤ (b.shuttle u).queue.length ∨ (b.robot k).transfer ≠ none) :
    ChargePlanned e hold k p b (b.modRobot k fun z => { z with chargeWait := true }) := by
  obtain ⟨code, answer⟩ : ∃ code, askTransfer e b .charge k (.rowEnd q) = .error code := by
    unfold askTransfer
    rw [transferCheck_cradle at' plain via near.1]
    split
    · exact ⟨_, rfl⟩
    · split
      · exact ⟨_, rfl⟩
      · split
        · exact ⟨_, rfl⟩
        · next has up room =>
          simp only [Option.isSome_iff_ne_none] at has
          tauto
  refine .inr (.inr ⟨u, q, plain, via, near, ?_⟩)
  rw [answer]

/-- The charge plan's transfer is accepted, on a shuttle that takes no work now (R57, R67). -/
theorem chargePlanned_accepted {hold : Option ShuttleId} {tag : Tag} (at' : (b.robot k).IdleAt p)
    (plain : ¬ (e.row p).cradle = true) (via : (e.row p).shuttle = some u) (near : b.NearestCradle e u p q)
    (up : (b.shuttle u).mode ≠ .faulted) (room : (b.shuttle u).queue.length < 8) (free : (b.robot k).transfer = none)
    (lowest : b.LowestFree tag) (busy : b.Occupied u) :
    ChargePlanned e hold k p b (((b.modRobot k fun z =>
        { z with
          chargeWait := false, mode := .waitTransfer, transfer := some tag
          order := if z.order = .attend then .none else z.order }).modRow q fun x =>
        { x with reservation := some tag }).modShuttle u fun y =>
      { y with
        queue := y.queue ++
          [{ tag := tag, robot := k, source := .rowEnd p, dest := .rowEnd q, origin := .charge, step := .queued }] }) := by
  have answer : askTransfer e b .charge k (.rowEnd q) = .ok (b.accept .charge k (.rowEnd q) (.rowEnd p) u tag, u, tag) := by
    unfold askTransfer
    rw [transferCheck_cradle at' plain via near.1, if_neg (by simp [free]), if_neg up, if_neg (by omega), freeTag_lowest lowest]
    rfl
  refine .inr (.inr ⟨u, q, plain, via, near, ?_⟩)
  rw [answer]
  have accepted : ((b.accept .charge k (.rowEnd q) (.rowEnd p) u tag).modRobot k fun z => { z with chargeWait := false }) =
      ((b.modRobot k fun z =>
          { z with
            chargeWait := false, mode := .waitTransfer, transfer := some tag
            order := if z.order = .attend then .none else z.order }).modRow q fun x =>
          { x with reservation := some tag }).modShuttle u fun y =>
        { y with
          queue := y.queue ++
            [{ tag := tag, robot := k, source := .rowEnd p, dest := .rowEnd q, origin := .charge, step := .queued }] } := by
    rw [Block.accept, Block.modShuttle_modRobot, Block.modRobot_modRobot, Block.modRobot_modRow]
    rfl
  dsimp only
  rw [accepted]
  refine .none _ (.inr ?_)
  rw [Block.Occupied, Block.shuttle_modShuttle, if_pos rfl]
  exact busy

/-! ## ROBOT STATUS (R52 to R59) -/

theorem resumeLevel_above {x : Params} (h : x.InRange) : x.chargeFloor < x.resumeLevel := by
  unfold Params.InRange at h
  omega

theorem Robot.Defers.up {x : Robot} (h : x.Defers) : x.mode ≠ .absent ∧ x.mode ≠ .faulted ∧ x.mode ≠ .braced := by
  obtain h | h | h | h | ⟨h, -⟩ := h <;> rw [h] <;> exact ⟨nofun, nofun, nofun⟩

theorem destReleased_frame (t : Transfer) (b : Block) : b.destReleased t = { b with rows := (b.destReleased t).rows } := by
  unfold Block.destReleased
  split <;> rfl

theorem destReleased_row (t : Transfer) (b : Block) (r : RowId) :
    (b.destReleased t).row r = { b.row r with
      reservation := if t.dest = .rowEnd r ∧ (b.row r).reservation = some t.tag then none else (b.row r).reservation } := by
  unfold Block.destReleased
  split
  · next d dest =>
    rw [Block.row_modRow, dest]
    by_cases hd : d = r
    · subst hd
      simp
    · simp [hd]
  · next dest => simp [dest]

/-- The removal of a robot's record, after a change that the robot's row claims and its record alone took. -/
theorem removed_frame {x : Robot} {t : Transfer} {queue : List Transfer}
    (frame : c = { b.modRobot k (fun _ => x) with rows := c.rows }) :
    let d := ((c.modShuttle u fun y => { y with queue := queue }).destReleased t).modRobot k fun z => { z with transfer := none }
    d = { (b.modRobot k fun _ => { x with transfer := none }).modShuttle u (fun y => { y with queue := queue }) with
      rows := d.rows } := by
  dsimp only
  rw [destReleased_frame]
  generalize ((c.modShuttle u fun y => { y with queue := queue }).destReleased t).rows = rows
  rw [frame]
  exact congrArg (fun robots => { b with
      rows := rows, robots := robots, shuttles := modifyAt b.shuttles u fun y => { y with queue := queue } })
    (modifyAt_modifyAt b.robots k (fun _ => x) _)

/-- Settles O25: a `report_` lemma for each kind of report, all of them over the runs of its hand-ons. -/
theorem robotStatusReports : Obligations.RobotStatusReports := by
  unfold Obligations.RobotStatusReports
  intro f robot battery fault ack k s taken hk z level order told low charged pops ends put queuedIn
  have report (present : z.mode ≠ .absent) {c : Block}
      (finish : Handed.finish s.env (s.blk.robotReport k battery fault ack) = some c) : ends c :=
    execRobotStatus_ends taken hk present finish
  have push : pushTest s.env s.blk told = true ↔ low := pushTest_iff
  have pop : popTest s.env told = true ↔ pops := by
    rw [popTest_iff]
    exact ⟨fun ⟨top, p, at', h⟩ => ⟨top, at'.1, p, at'.2, h⟩, fun ⟨top, idle, p, place, h⟩ => ⟨top, p, ⟨idle, place⟩, h⟩⟩
  refine ⟨execRobotStatus_absent taken hk, fun present notLow notPops => ⟨fun clear sound => ?_, fun set faulted => ?_,
    fun set braced => ?_⟩, fun clear faulted => ?_, fun set present sound unbraced => ?_, fun clear isLow => ?_,
    fun p below clear idle place isCharged top => ?_⟩
  · subst clear
    exact report present (report_clear sound (Bool.eq_false_iff.mpr (mt push.mp notLow)) (Bool.eq_false_iff.mpr (mt pop.mp notPops)))
  · subst set
    exact report present (report_faulted faulted)
  · subst set
    exact report present (report_braced braced (Bool.eq_false_iff.mpr (mt push.mp notLow)))
  · subst clear
    intro waits recovered
    have same : recovered = s.blk.recoveredAt k battery ack := Block.modRobot_congr (by rw [recoveredMode_eq]; rfl)
    have robot : recovered.robot k = { told with mode := s.blk.recoveredMode k } := by
      rw [same, recoveredAt_robot]
      rfl
    have present : z.mode ≠ .absent := ne_of_eq_of_ne faulted nofun
    refine ⟨fun idle notLow => ?_, fun c inRange rests => ?_⟩
    · have still : recovered.RestsIdle k := by rw [Block.RestsIdle, robot]; exact idle
      have quiet : pushTest s.env recovered (recovered.robot k) = false := by
        rw [robot]
        exact Bool.eq_false_iff.mpr (mt push.mp notLow)
      refine report present (report_recovers faulted (same ▸ comesToRest_idle still) quiet (fun plan => planned_calm ?_) fun _ => rfl)
      obtain empty | park := still.2
      · exact absurd plan.1 (by rw [empty]; nofun)
      · exact park.2.2
    · intro y push atEnd defers
      obtain ⟨weather, location, held⟩ := (ComesToRest.ends rests).1
      rw [robot] at held
      rw [same] at rests
      have pushes : pushTest s.env c y = true ↔ push := by
        rw [pushTest_iff, held, weather]
        exact Iff.rfl
      have quiet (h : ¬ push) : pushTest s.env c y = false := Bool.eq_false_iff.mpr (mt pushes.mp h)
      refine ⟨fun notPush notPlan => ?_, fun d notPush park at' planned => ?_, fun p d isPush at' planned => ?_,
        fun isPush elsewhere => ?_⟩
      · exact report present (report_recovers faulted rests (quiet notPush) (fun plan => absurd plan notPlan) fun _ => rfl)
      · exact report present (report_recovers faulted rests (quiet notPush) (fun _ => planned) fun notPlan =>
          absurd ⟨park, at'⟩ notPlan)
      · have low : y.battery < s.env.params.resumeLevel := by
          have below : level < s.env.params.chargeFloor := isPush.1
          have resume : s.env.params.chargeFloor < s.env.params.resumeLevel := resumeLevel_above inRange
          rw [held]
          show level < _
          omega
        exact report present (report_recovers_charge faulted rests (pushes.mpr isPush) low at' planned)
      · exact report present (report_recovers_deferred faulted rests (pushes.mpr isPush) (not_exists.mp elsewhere))
  · subst set
    intro opened down
    refine ⟨fun none' => ⟨_, report present (report_fault present sound unbraced fun u t mem queued => none' u t ⟨mem, queued⟩),
      faultedAt_frame, fun r => faultedAt_row r⟩, fun u t before after queue queued own transfer unique alone waits busy => ?_⟩
    refine ⟨_, report present (report_fault_queued present sound unbraced queue queued own transfer unique alone waits busy), ?_,
      fun r => ?_⟩
    · exact removed_frame faultedAt_frame
    · rw [Block.modRobot_row, destReleased_row, Block.modShuttle_row, faultedAt_row]
  · subst clear
    refine ⟨fun defers => ?_, fun p idle place notYet => ?_⟩
    · obtain ⟨present, sound, unbraced⟩ := Robot.Defers.up defers
      exact report present (report_low_deferred sound unbraced (push.mpr isLow) defers)
    · intro pushed via cradle
      have present : z.mode ≠ .absent := ne_of_eq_of_ne idle nofun
      have charge {c : Block} (planned : ChargePlanned s.env none k p (s.blk.modRobot k fun _ => pushed) c) : ends c :=
        report present (report_low_charge ⟨idle, place⟩ (push.mpr isLow) notYet planned)
      have robot : (s.blk.modRobot k fun _ => pushed).robot k = pushed := (Block.robot_modRobot ..).trans (if_pos rfl)
      have at' : ((s.blk.modRobot k fun _ => pushed).robot k).IdleAt p := by rw [robot]; exact ⟨idle, place⟩
      have twice (g : Robot → Robot) : (s.blk.modRobot k fun _ => pushed).modRobot k g = s.blk.modRobot k fun _ => g pushed :=
        Block.modRobot_modRobot ..
      refine ⟨fun charges => ?_, fun plain none' => ?_, fun u c plain hu near => ⟨fun refused => ?_,
        fun tag up room free lowest busy => ?_⟩⟩
      · have charging := charge (.inl ⟨charges, rfl⟩)
        dsimp only at charging
        rw [twice] at charging
        exact charging
      · have waits := charge (.inr (.inl ⟨plain, none', rfl⟩))
        dsimp only at waits
        rw [twice] at waits
        exact waits
      · have waits := charge (chargePlanned_refused at' plain hu near (by rw [robot]; exact refused))
        rw [twice] at waits
        exact waits
      · have accepted := charge
          (chargePlanned_accepted (q := c) at' plain hu near up room (by rw [robot]; exact free) lowest busy)
        rw [twice] at accepted
        exact accepted
  · subst clear
    have present : z.mode ≠ .absent := ne_of_eq_of_ne idle nofun
    intro popped
    have given {c : Block} (gives : GivesTop s.env none k (s.blk.modRobot k fun _ => popped) c)
        (unparked : (c.robot k).stack.head? ≠ some .park) : ends c :=
      report present (report_pops ⟨idle, place⟩ isCharged top gives unparked)
    refine ⟨fun empty => ?_, fun c _ gives unparked => given gives unparked⟩
    have stack : ((s.blk.modRobot k fun _ => popped).robot k).stack = [] := by
      rw [Block.robot_modRobot, if_pos rfl]
      exact empty
    exact given (.nothing _ (.inr (.inl stack))) (by rw [stack]; nofun)

end Sys2Proof.Machine
end

section
/-! PROOF. The fields of a reply as the reader sees them (R186, R187), and the time left on a deadline (R20). -/

namespace Sys2Proof.Machine

open Sys2Proof

variable {e : Env} {b : Block} {k : RobotId} {kind : DeadlineKind} {d : Deadline} {p : List Byte} {o count n : Nat}

/-! ## Numbers and their bytes (R186) -/

theorem byteOf_toNat (h : n < 256) : (byteOf n).toNat = n := Nat.mod_eq_of_lt h

theorem byteOf_mod (n : Nat) : (byteOf n).toNat = n % 256 := rfl

theorem flagByte_toNat (x : Bool) : (flagByte x).toNat = if x then 1 else 0 := by cases x <;> rfl

theorem optByte_toNat {m : Nat} (h : m ≤ 256) (x : Option (Fin m)) : (optByte x).toNat = orNone x := by
  cases x with
  | none => rfl
  | some y => exact byteOf_toNat (y.isLt.trans_le h)

/-- The bytes of a number, read behind a value `m`, most significant first. -/
theorem foldl_bytesOf (count n m : Nat) :
    (bytesOf count n).foldl (fun n x => 256 * n + x.toNat) m = m * 256 ^ count + n % 256 ^ count := by
  induction count generalizing m with
  | zero => simp [bytesOf, Nat.mod_one]
  | succ count ih =>
    have top : (byteOf (n / 256 ^ count)).toNat = n / 256 ^ count % 256 := rfl
    rw [bytesOf, List.foldl_cons, ih, top, pow_succ, Nat.mod_mul]
    ring

/-- A field of several bytes, found at its place. -/
theorem fieldAt_number (place : (p.drop o).take count = bytesOf count n) (h : n < 256 ^ count) : fieldAt p o count = n := by
  rw [fieldAt, place, foldl_bytesOf, Nat.zero_mul, Nat.zero_add, Nat.mod_eq_of_lt h]

/-- A field of one byte, found at its place. -/
theorem fieldAt_byte {a : Byte} (place : (p.drop o).take 1 = [a]) : fieldAt p o 1 = a.toNat := by
  rw [fieldAt, place]
  show 256 * 0 + a.toNat = a.toNat
  omega

/-- A field that lies behind a head of `h` bytes and a list. -/
theorem fieldAt_behind {head list rest : List Byte} {h i : Nat} (len : head.length = h) (place : o = h + list.length + i) :
    fieldAt (head ++ (list ++ rest)) o count = fieldAt rest i count := by
  subst len place
  have both : (head ++ list).length = head.length + list.length := List.length_append
  rw [fieldAt, fieldAt, ← List.append_assoc, ← both, List.drop_length_add_append]

/-- The list that lies between a head of `h` bytes and a rest of `r` bytes. -/
theorem layout_list {head list rest : List Byte} {h r : Nat} (len : head.length = h) (len' : rest.length = r) :
    (head ++ (list ++ rest)).length = h + r + list.length
      ∧ ((head ++ (list ++ rest)).drop h).take list.length = list := by
  subst len len'
  refine ⟨?_, by rw [List.drop_left, List.take_left]⟩
  rw [List.length_append, List.length_append]
  omega

theorem map_append_eq {α β : Type} {g : α → β} {x y : List α} {x' y' : List β} (hx : x.map g = x') (hy : y.map g = y') :
    (x ++ y).map g = x' ++ y' := by rw [List.map_append, hx, hy]

/-! ## Fields of several values (R187) -/

theorem Location.bytes_code (l : Location) : ∃ x y, l.bytes = [x, y] ∧ (x.toNat, y.toNat) = l.code := by
  cases l with
  | nowhere => exact ⟨_, _, rfl, rfl⟩
  | unknown => exact ⟨_, _, rfl, rfl⟩
  | rowEnd r => exact ⟨_, _, rfl, congrArg (Prod.mk 1) (byteOf_toNat r.isLt)⟩
  | onRow r => exact ⟨_, _, rfl, congrArg (Prod.mk 2) (byteOf_toNat r.isLt)⟩
  | carried u => exact ⟨_, _, rfl, congrArg (Prod.mk 3) (byteOf_toNat (u.isLt.trans (by decide)))⟩

theorem Order.bytes_code (w : Order) : ∃ x y, w.bytes = [x, y] ∧ (x.toNat, y.toNat) = w.code := by
  cases w with
  | go r => exact ⟨_, _, rfl, congrArg (Prod.mk 1) (byteOf_toNat r.isLt)⟩
  | _ => exact ⟨_, _, rfl, rfl⟩

theorem RobotOutcome.bytes_code (w : RobotOutcome) : ∃ x y, w.bytes = [x, y] ∧ (x.toNat, y.toNat) = w.code := by
  cases w with
  | transferFailed why => exact ⟨_, _, rfl, by cases why <;> rfl⟩
  | _ => exact ⟨_, _, rfl, rfl⟩

theorem rangeBytes_code (range : Option (Bay × Bay)) : ∃ x y, rangeBytes range = [x, y] ∧
    (x.toNat, y.toNat) = match range with | some (lo, hi) => (lo.val, hi.val) | none => (255, 255) := by
  cases range with
  | none => exact ⟨_, _, rfl, rfl⟩
  | some bays =>
    have bay (x : Bay) : (byteOf x.val).toNat = x.val := byteOf_toNat (x.isLt.trans (by decide))
    exact ⟨_, _, rfl, Prod.ext (bay bays.1) (bay bays.2)⟩

theorem RobotMode.byteOf_place (m : RobotMode) : (byteOf m.place).toNat = m.code := by cases m <;> rfl

theorem Standing.byteOf_place (x : Standing) : (byteOf x.place).toNat = x.code := by cases x <;> rfl

theorem ShuttleMode.byteOf_place (m : ShuttleMode) : (byteOf m.place).toNat = m.code := by cases m <;> rfl

theorem Weather.byteOf_place (w : Weather) : (byteOf w.place).toNat = w.code := by cases w <;> rfl

theorem Level.byteOf_place (l : Level) : (byteOf l.place).toNat = l.code := by cases l <;> rfl

theorem Origin.byteOf_place (w : Origin) : (byteOf w.place).toNat = w.code := by cases w <;> rfl

theorem RunStep.byteOf_place (w : RunStep) : (byteOf w.place).toNat = w.code := by cases w <;> rfl

theorem Origin.parkPriority_toNat (w : Origin) :
    (flagByte w.parkPriority).toNat = if w = .park ∨ w = .recovery then 1 else 0 := by cases w <;> rfl

theorem Shuttle.cause_toNat (x : Shuttle) : (byteOf (shuttleCausePlace x.cause)).toNat = x.causeCode := by
  unfold shuttleCausePlace Shuttle.causeCode
  cases x.cause with
  | none => rfl
  | some c => cases c <;> rfl

theorem Entry.flags_toNat (x : Entry) :
    x.flags.toNat = x.state.code + 4 * (if x.entered then 1 else 0) + 8 * x.reasonCode := by
  have state : x.state.place = x.state.code ∧ x.state.code ≤ 3 := by cases x.state <;> decide
  have reason : (match x.reason with | some w => w.place | none => 0) = x.reasonCode ∧ x.reasonCode ≤ 7 := by
    unfold Entry.reasonCode
    cases x.reason with
    | none => decide
    | some w => cases w <;> decide
  have entered : (if x.entered then 4 else 0) = 4 * (if x.entered then 1 else 0) ∧ (if x.entered then 1 else 0) ≤ 1 := by
    cases x.entered <;> decide
  have sum := congrArg₂ (· + ·) (congrArg₂ (· + ·) state.1 entered.1) (congrArg (8 * ·) reason.1)
  exact (congrArg (fun n => (byteOf n).toNat) sum).trans (byteOf_toNat (by omega))

theorem Round.bytes_toNat (rd : Round) :
    rd.bytes.map BitVec.toNat = [rd.start.val, if rd.paused then 1 else 0, rd.entries.length % 256]
      ++ rd.entries.flatMap fun y => [y.row.val, y.state.code + 4 * (if y.entered then 1 else 0) + 8 * y.reasonCode] := by
  refine map_append_eq ?_ ?_
  · show [(byteOf rd.start.val).toNat, (flagByte rd.paused).toNat, _] = _
    rw [byteOf_toNat rd.start.isLt, flagByte_toNat]
    rfl
  · rw [List.map_flatMap]
    refine congrArg (List.flatMap · rd.entries) (funext fun y => ?_)
    show [(byteOf y.row.val).toNat, y.flags.toNat] = _
    rw [byteOf_toNat y.row.isLt, Entry.flags_toNat]

theorem positionByte_toNat (x : Option Dest) :
    (positionByte x).toNat = match x with | some (.rowEnd r) => r.val | some .garage => 254 | none => 255 := by
  cases x with
  | none => rfl
  | some place =>
    cases place with
    | garage => rfl
    | rowEnd r => exact byteOf_toNat r.isLt

theorem Transfer.bytes_toNat (t : Transfer) :
    t.bytes.map BitVec.toNat = [t.tag.val, t.robot.val]
      ++ (match t.source with | .rowEnd r => [0, r.val] | .carried v => [1, v.val])
      ++ (match t.dest with | .rowEnd r => [0, r.val] | .garage => [2, 255])
      ++ [t.origin.code, if t.origin = .park ∨ t.origin = .recovery then 1 else 0]
      ++ (match t.step with | .queued => [0, 255] | .running y => [y.code, 255] | .inDoubt y => [5, y.code]) := by
  have row (lead : Byte) (r : RowId) : [lead, byteOf r.val].map BitVec.toNat = [lead.toNat, r.val] :=
    congrArg ([lead.toNat, ·]) (byteOf_toNat r.isLt)
  refine map_append_eq (map_append_eq (map_append_eq (map_append_eq ?_ ?_) ?_) ?_) ?_
  · exact congrArg₂ ([·, ·]) (byteOf_toNat (t.tag.isLt.trans (by decide))) (byteOf_toNat (t.robot.isLt.trans (by decide)))
  · cases t.source with
    | rowEnd r => exact row 0 r
    | carried v => exact congrArg ([1, ·]) (byteOf_toNat (v.isLt.trans (by decide)))
  · cases t.dest with
    | rowEnd r => exact row 0 r
    | garage => rfl
  · exact congrArg₂ ([·, ·]) t.origin.byteOf_place t.origin.parkPriority_toNat
  · cases t.step with
    | queued => rfl
    | running y => exact congrArg ([·, 255]) y.byteOf_place
    | inDoubt y => exact congrArg ([5, ·]) y.byteOf_place

/-! ## The time left on a deadline (R15, R20) -/

theorem timeLeft_of_mem (distinct : (b.deadlines.map Deadline.kind).Nodup) (mem : d ∈ b.deadlines) :
    b.timeLeft e d.kind = d.remaining e.now := by
  unfold Block.timeLeft
  cases found : b.deadlines.find? fun x => x.kind == d.kind with
  | none => simpa using List.find?_eq_none.mp found d mem
  | some x =>
    have same : x.kind = d.kind := by simpa using List.find?_some found
    have one : x = d := List.inj_on_of_nodup_map distinct (List.mem_of_find?_eq_some found) mem same
    exact congrArg (Deadline.remaining e.now) one

theorem timeLeft_of_none (h : ∀ d ∈ b.deadlines, d.kind ≠ kind) : b.timeLeft e kind = 0 := by
  have none' : b.deadlines.find? (fun x => x.kind == kind) = none :=
    List.find?_eq_none.mpr fun d mem => by simpa using h d mem
  rw [Block.timeLeft, none']

/-- A field that carries the time left on the entry of a kind. -/
theorem timeLeft_shown (distinct : b.KeysDistinct) (place : (p.drop o).take 2 = bytesOf 2 (b.timeLeft e kind)) :
    (∀ d ∈ b.deadlines, d.kind = kind → d.remaining e.now < 65536 → fieldAt p o 2 = d.remaining e.now)
      ∧ ((∀ d ∈ b.deadlines, d.kind ≠ kind) → fieldAt p o 2 = 0) := by
  refine ⟨fun d mem same short => ?_, fun gone => ?_⟩
  · subst same
    rw [timeLeft_of_mem distinct.1 mem] at place
    exact fieldAt_number place short
  · rw [timeLeft_of_none gone] at place
    exact fieldAt_number place (by decide)

theorem armed_iff : b.armed kind = true ↔ ∃ d ∈ b.deadlines, d.kind = kind := by
  simp [Block.armed]

/-- A robot has one of its two kinds armed at most (R15), so the time left is that of the entry that stands (R49). -/
theorem holdTimeLeft_of_mem (distinct : b.KeysDistinct) (mem : d ∈ b.deadlines)
    (own : d.kind = .holdConfirm k ∨ d.kind = .holdLimit k) : holdTimeLeft e b k = d.remaining e.now := by
  unfold holdTimeLeft
  obtain confirm | limit := own
  · rw [if_pos (armed_iff.mpr ⟨d, mem, confirm⟩), ← confirm, timeLeft_of_mem distinct.1 mem]
  · have alone : ¬ b.armed (.holdConfirm k) = true := fun h => by
      obtain ⟨x, hx, other⟩ := armed_iff.mp h
      exact distinct.2 d mem (.holdConfirm k) (by rw [limit]; rfl) (other ▸ List.mem_map_of_mem hx)
    rw [if_neg alone, ← limit, timeLeft_of_mem distinct.1 mem]

theorem holdTimeLeft_of_none (h : ∀ d ∈ b.deadlines, d.kind ≠ .holdConfirm k ∧ d.kind ≠ .holdLimit k) :
    holdTimeLeft e b k = 0 := by
  unfold holdTimeLeft
  split
  · exact timeLeft_of_none fun d mem => (h d mem).1
  · exact timeLeft_of_none fun d mem => (h d mem).2

end Sys2Proof.Machine
end

section
/-! PROOF. READ ROBOT (R49), READ SHUTTLE (R80, R87), and READ WEATHER (R161, R179). -/

namespace Sys2Proof.Machine

open Sys2Proof

variable {s : State} {f : Frame} {e : Env} {b : Block} {k : RobotId} {u : ShuttleId} {l : List Nat} {m n : Nat}

/-! ## What a read replies and clears -/

theorem execReadRobot_ok {robot : Byte} (taken : Taken .readRobot f s) (hk : robot.toNat = k.val) :
    exec (.readRobot f robot) s = .next (answered .readRobot f
      { code := .ok, payload := robotBytes (s.blk.robot k) (holdTimeLeft s.env s.blk k) } s) := by
  unfold exec
  refine request_answered taken ?_
  rw [onRobot_inside hk, State.taken_blk, State.taken_env]

/-- The link-fault flag after a read (R148): a read of the plant port clears it while the link is ENABLED. -/
theorem State.linkRead_eq (s : State) (p : Port) :
    s.linkRead p = { s with blk := { s.blk with
      linkFaultItem := s.blk.linkFaultItem && !(p == .plant && s.blk.link.enabled) } } := by
  unfold State.linkRead
  split
  next h =>
    obtain ⟨rfl, up⟩ := h
    simp [up]
  next h =>
    have kept : (p == .plant && s.blk.link.enabled) = false := by
      rw [Bool.and_eq_false_iff]
      simpa [imp_iff_not_or] using h
    rw [kept, Bool.not_false, Bool.and_true]

/-- The weather-changed flag after a read (R148): a read of the plant port clears it. -/
theorem State.weatherRead_eq (s : State) (p : Port) :
    s.weatherRead p = { s with blk := { s.blk with weatherChanged := s.blk.weatherChanged && !(p == .plant) } } := by
  unfold State.weatherRead
  split
  next h =>
    subst h
    simp
  next h => rw [beq_eq_false_iff_ne.mpr h, Bool.not_false, Bool.and_true]

theorem execReadShuttle_ok {shuttle : Byte} (taken : Taken .readShuttle f s) (hu : shuttle.toNat = u.val) :
    exec (.readShuttle f shuttle) s = .next { answered .readShuttle f
        { code := .ok, payload := shuttleBytes (s.blk.shuttle u) (s.blk.timeLeft s.env (.shuttleStep u))
            (!s.blk.link.enabled) s.contend } s with
      blk := { s.blk with linkFaultItem := s.blk.linkFaultItem && !(f.port == .plant && s.blk.link.enabled) } } := by
  unfold exec
  refine request_served taken ?_
  simp only [shuttleArg_inside hu, State.linkRead_eq, State.taken_blk, State.taken_env, State.taken_contend]

theorem execReadShuttle_outside {shuttle : Byte} (taken : Taken .readShuttle f s) (h : 4 ≤ shuttle.toNat) :
    exec (.readShuttle f shuttle) s = .next (answered .readShuttle f { code := .badValue } s) := by
  unfold exec
  refine request_refused taken ?_
  rw [shuttleArg_outside h]

theorem State.taken_windBytes (s : State) (f : Frame) : (s.taken f).windBytes = s.windBytes := by
  simp only [State.windBytes, State.windLevel, State.taken_env, State.taken_mastA, State.taken_mastB]

theorem execReadWeather_ok (taken : Taken .readWeather f s) :
    exec (.readWeather f) s = .next { answered .readWeather f
        { code := .ok, payload := s.windBytes ++ weatherBytes s.env s.blk } s with
      blk := { s.blk with weatherChanged := s.blk.weatherChanged && !(f.port == .plant) } } := by
  unfold exec
  refine request_served taken ?_
  simp only [State.weatherRead_eq, State.taken_windBytes, State.taken_blk, State.taken_env]

/-! ## The lists of READ ROBOT and READ SHUTTLE, and the figures of READ WEATHER -/

theorem foldl_max_le (start : m ≤ n) (all : ∀ v ∈ l, v ≤ n) : l.foldl max m ≤ n := by
  induction l generalizing m with
  | nil => exact start
  | cons v rest ih =>
    obtain ⟨first, others⟩ := List.forall_mem_cons.mp all
    exact ih (max_le start first) others

theorem MastRec.InRange.gust_le {x : MastRec} (h : x.InRange) : x.gust ≤ 1000 := by
  obtain ⟨-, -, -, -, -, -, -, -, window, gust, -⟩ := h
  exact gust ▸ foldl_max_le (Nat.zero_le _) window

theorem MastRec.InRange.sum_le {x : MastRec} (h : x.InRange) : x.sum ≤ 60 * 1000000 := by
  obtain ⟨-, -, -, -, length, ring, sum, -⟩ := h
  calc x.sum = x.ring.sum := sum
    _ ≤ x.ring.length • 1000000 := List.sum_le_card_nsmul _ _ ring
    _ ≤ 60 * 1000000 := Nat.mul_le_mul_right _ length

theorem parkCount_lt (which : Robot → Bool) : parkCount b which < 256 :=
  calc parkCount b which ≤ allRobots.length := List.length_filter_le ..
    _ < 256 := by decide

/-! ## The three reads -/

/-- Settles O10: each reply is laid out in front of and behind its list (`layout_list`), and its fields are found at their
places (`fieldAt_byte`, `fieldAt_number`, `fieldAt_behind`). -/
theorem readsChangeNothing : Obligations.ReadsChangeNothing := by
  unfold Obligations.ReadsChangeNothing
  intro flag
  refine ⟨fun f robot k s taken hk battery distinct => ?_, fun f shuttle u s taken hu due distinct => ?_,
    fun f shuttle s taken outside => ?_, fun f s taken inRange distinct => ?_⟩
  · intro x
    obtain ⟨l, l', locationBytes, location⟩ := x.location.bytes_code
    obtain ⟨o, o', orderBytes, order⟩ := x.order.bytes_code
    obtain ⟨r, r', outcomeBytes, outcome⟩ := x.outcome.bytes_code
    have layout : robotBytes x (holdTimeLeft s.env s.blk k)
        = [byteOf x.mode.place, l, l', flagByte x.inGarage, byteOf x.battery, o, o', r, r', optByte x.transfer,
            flagByte x.parkWait, flagByte x.chargeWait, flagByte x.chargeDeferred, flagByte x.faultPending,
            byteOf x.stack.length]
          ++ (x.stack.flatMap RobotTask.bytes ++ (bytesOf 2 (holdTimeLeft s.env s.blk k) ++ [byteOf x.standing.place])) := by
      rw [robotBytes, locationBytes, orderBytes, outcomeBytes, List.append_assoc, List.append_assoc]
      rfl
    have served := execReadRobot_ok taken hk
    rw [layout] at served
    refine ⟨_, _, served, (layout_list rfl rfl).1, (layout_list (h := 15) (r := 3) rfl rfl).2,
      (fieldAt_byte rfl).trans x.mode.byteOf_place,
      (congrArg₂ Prod.mk (fieldAt_byte rfl) (fieldAt_byte rfl)).trans location,
      (fieldAt_byte rfl).trans (flagByte_toNat _),
      (fieldAt_byte rfl).trans (byteOf_toNat (Nat.lt_of_le_of_lt battery (by decide))),
      (congrArg₂ Prod.mk (fieldAt_byte rfl) (fieldAt_byte rfl)).trans order,
      (congrArg₂ Prod.mk (fieldAt_byte rfl) (fieldAt_byte rfl)).trans outcome,
      (fieldAt_byte rfl).trans (optByte_toNat (by decide) _), (fieldAt_byte rfl).trans (flagByte_toNat _),
      (fieldAt_byte rfl).trans (flagByte_toNat _), (fieldAt_byte rfl).trans (flagByte_toNat _),
      (fieldAt_byte rfl).trans (flagByte_toNat _), (fieldAt_byte rfl).trans (byteOf_mod _), ?_,
      fun d mem own short => ?_, fun gone => ?_, ?_⟩
    · rw [List.map_flatMap]
      refine congrArg (List.flatMap · x.stack) (funext fun t => ?_)
      cases t with
      | charge => rfl
      | park => rfl
      | round rd => exact congrArg (0 :: ·) rd.bytes_toNat
    · rw [holdTimeLeft_of_mem distinct mem own]
      exact (fieldAt_behind (h := 15) (i := 0) rfl rfl).trans (fieldAt_number rfl short)
    · rw [holdTimeLeft_of_none gone]
      exact (fieldAt_behind (h := 15) (i := 0) rfl rfl).trans (fieldAt_number rfl (by decide))
    · refine (fieldAt_behind (h := 15) (i := 2) rfl (by omega)).trans ?_
      exact (fieldAt_byte rfl).trans x.standing.byteOf_place
  · intro x
    obtain ⟨lo, hi, bays, range⟩ := rangeBytes_code x.range
    have layout : shuttleBytes x (s.blk.timeLeft s.env (.shuttleStep u)) (!s.blk.link.enabled) s.contend
        = ([lo, hi, byteOf x.mode.place, positionByte x.position, optByte x.load, optByte x.current,
              byteOf (x.pollDue.getD 0), byteOf (shuttleCausePlace x.cause)]
            ++ (bytesOf 2 (s.blk.timeLeft s.env (.shuttleStep u)) ++ [byteOf x.queue.length]))
          ++ (x.queue.flatMap Transfer.bytes ++ [flagByte !s.blk.link.enabled, flagByte s.contend, x.lastFault]) := by
      rw [shuttleBytes, bays, List.append_assoc]
      rfl
    have served := execReadShuttle_ok taken hu
    rw [layout] at served
    have polled : x.pollDue.getD 0 < 256 := by
      cases at' : x.pollDue with
      | none => decide
      | some n => exact Nat.lt_of_le_of_lt (due n at') (by decide)
    refine ⟨_, _, served, (layout_list rfl rfl).1, (layout_list (h := 11) (r := 3) rfl rfl).2,
      (congrArg₂ Prod.mk (fieldAt_byte rfl) (fieldAt_byte rfl)).trans range, (fieldAt_byte rfl).trans x.mode.byteOf_place,
      (fieldAt_byte rfl).trans (positionByte_toNat _), (fieldAt_byte rfl).trans (optByte_toNat (by decide) _),
      (fieldAt_byte rfl).trans (optByte_toNat (by decide) _), (fieldAt_byte rfl).trans (byteOf_toNat polled),
      (fieldAt_byte rfl).trans x.cause_toNat, (timeLeft_shown distinct rfl).1, (timeLeft_shown distinct rfl).2,
      (fieldAt_byte rfl).trans (byteOf_mod _), ?_, ?_, ?_, ?_⟩
    · rw [List.map_flatMap]
      exact congrArg (List.flatMap · x.queue) (funext Transfer.bytes_toNat)
    · refine (fieldAt_behind (h := 11) (i := 0) rfl rfl).trans ((fieldAt_byte rfl).trans ?_)
      cases s.blk.link.enabled <;> rfl
    · refine (fieldAt_behind (h := 11) (i := 1) rfl (by omega)).trans ?_
      exact (fieldAt_byte rfl).trans (flagByte_toNat _)
    · exact (fieldAt_behind (h := 11) (i := 2) rfl (by omega)).trans (fieldAt_byte rfl)
  · exact execReadShuttle_outside taken outside
  · intro mast parked
    have shown {x : MastRec} (h : x.InRange) : mast (mastBytes s.env.params x) x := by
      have gust := h.gust_le
      have sum := h.sum_le
      obtain ⟨-, -, lost, speed, ring, -, -, -, -, -, silence, overrun, recovery, -⟩ := h
      refine ⟨(fieldAt_byte rfl).trans ?_, (fieldAt_byte rfl).trans ?_, fieldAt_number rfl (by omega),
        fieldAt_number rfl (by omega), fieldAt_number rfl (by omega), (fieldAt_byte rfl).trans (byteOf_toNat (by omega)),
        (fieldAt_byte rfl).trans (Level.byteOf_place _), (fieldAt_byte rfl).trans (byteOf_toNat (by omega)),
        (fieldAt_byte rfl).trans (byteOf_toNat (by omega)), (fieldAt_byte rfl).trans (byteOf_toNat (by omega)),
        fieldAt_number rfl (by omega)⟩
      · cases x.health <;> rfl
      · unfold mastCausePlace
        cases x.cause with
        | none => rfl
        | some c => cases c <;> rfl
    have counted (which : Robot → Prop) (test : Robot → Bool) (same : ∀ x, test x = true ↔ which x) {n : Nat}
        (count : n = (byteOf (parkCount s.blk test)).toNat) : parked which n := by
      subst count
      rw [byteOf_toNat (parkCount_lt test)]
      refine ⟨_, (List.nodup_finRange 24).filter _, rfl, fun k => ?_⟩
      simp [Robot.enrolled, Robot.holdsPark, same, and_assoc]
    refine ⟨_, execReadWeather_ok taken, rfl, shown inRange.1, shown inRange.2,
      (fieldAt_byte rfl).trans (Level.byteOf_place _), (fieldAt_byte rfl).trans (Weather.byteOf_place _),
      (fieldAt_byte rfl).trans (Level.byteOf_place _), (fieldAt_byte rfl).trans (flagByte_toNat _),
      (fieldAt_byte rfl).trans (flagByte_toNat _), ?_,
      counted (fun _ => True) (fun _ => true) (fun _ => by simp) (fieldAt_byte rfl),
      counted (fun x => x.standing = .safe) (fun x => x.standing == .safe) (fun _ => by simp) (fieldAt_byte rfl),
      counted (fun x => x.standing = .unparked) (fun x => x.standing == .unparked) (fun _ => by simp) (fieldAt_byte rfl)⟩
    rintro kind offset (⟨rfl, rfl⟩ | ⟨rfl, rfl⟩)
    · exact timeLeft_shown distinct rfl
    · exact timeLeft_shown distinct rfl

end Sys2Proof.Machine
end

section
/-! PROOF. TRANSFER (R66 to R70): the checks of its acceptance test in their order, and the accepted record with its offer of
work. -/

namespace Sys2Proof.Machine

open Sys2Proof

variable {s : State} {f : Frame} {e : Env} {b c : Block} {k : RobotId} {u : ShuttleId} {robot : Byte} {dest : Dest}

/-! ## The source (R66, check 4) -/

/-- The robot may be taken by a transfer from `source`, with `via` the shuttle that would take it (R66, check 4). -/
abbrev Robot.TakenFrom (e : Env) (x : Robot) (source : Source) (via : Option ShuttleId) : Prop :=
  match source with
  | .rowEnd p => x.mode = .idle ∧ x.location = .rowEnd p ∧ via = (e.row p).shuttle
  | .carried u => x.mode = .carried ∧ x.location = .carried u ∧ via = some u

theorem transferSource_takenFrom {x : Robot} {source : Source} {via : Option ShuttleId} (h : x.TakenFrom e source via) :
    transferSource e x = some (source, via) := by
  cases source <;>
    · obtain ⟨mode, location, rfl⟩ := h
      simp only [transferSource, mode, location]

theorem takenFrom_of_transferSource {x : Robot} {source : Source} {via : Option ShuttleId}
    (h : transferSource e x = some (source, via)) : x.TakenFrom e source via := by
  unfold transferSource at h
  split at h
  · next mode location =>
    cases h
    exact ⟨mode, location, rfl⟩
  · next mode location =>
    cases h
    exact ⟨mode, location, rfl⟩
  · cases h

/-! ## The checks in their order (R66) -/

/-- The destination is the place where the robot already is (R66, check 5). -/
abbrev Robot.OwnPlace (x : Robot) : Dest → Prop
  | .rowEnd d => x.location = .rowEnd d
  | .garage => x.mode = .carried ∧ x.inGarage = true

/-- Shuttle `u` can bring a robot to the destination (R66, check 6). -/
abbrev Block.Routes (e : Env) (u : ShuttleId) (dest : Dest) (b : Block) : Prop :=
  (b.shuttle u).mode ≠ .faulted ∧ ∀ d, dest = .rowEnd d → (e.row d).shuttle = some u

/-- The destination is a row that is LOCKED (R66, check 7). -/
abbrev Block.LocksDest (dest : Dest) (b : Block) : Prop := ∃ d, dest = .rowEnd d ∧ (b.row d).locked ≠ none

/-- The destination may be claimed for the robot (R66, check 8). -/
abbrev Block.DestFree (k : RobotId) (u : ShuttleId) (b : Block) : Dest → Prop
  | .rowEnd d =>
    let x := b.row d
    x.occupant = none ∧ x.reservation = none ∧ x.holder = none ∧ (x.reservedBy = none ∨ x.reservedBy = some k)
  | .garage =>
    (∀ j, (b.robot j).location = .carried u → (b.robot j).inGarage = false)
      ∧ ∀ t ∈ (b.shuttle u).queue, t.dest ≠ .garage

theorem ownPlace_iff {x : Robot} {source : Source} {via : Option ShuttleId} (taken : x.TakenFrom e source via) :
    ownPlace x dest = true ↔ x.OwnPlace dest := by
  cases dest with
  | rowEnd d => exact beq_iff_eq
  | garage =>
    cases source <;>
      · obtain ⟨mode, location, -⟩ := taken
        simp [ownPlace, Robot.OwnPlace, mode, location]

theorem Block.garageClaimed_eq_false : b.garageClaimed u = false ↔ b.DestFree k u .garage := by
  simp [Block.garageClaimed, allRobots]

theorem RowState.reservedByOther_eq_false {x : RowState} :
    x.reservedByOther k = false ↔ x.reservedBy = none ∨ x.reservedBy = some k := by
  unfold RowState.reservedByOther
  cases x.reservedBy <;> simp

theorem noRoute_iff : ((b.shuttle u).mode == .faulted || (match dest with
    | .rowEnd d => (e.row d).shuttle != some u | .garage => false)) = true ↔ ¬ b.Routes e u dest := by
  cases dest <;> simp [Block.Routes, imp_iff_not_or]

theorem destLocked_iff : b.destLocked dest = true ↔ b.LocksDest dest := by
  cases dest <;> simp [Block.destLocked, Block.LocksDest, Option.isSome_iff_ne_none]

theorem destBusy_iff : (match dest with
    | .rowEnd d => !(b.row d).endFree || (b.row d).reservedByOther k
    | .garage => b.garageClaimed u) = true ↔ ¬ b.DestFree k u dest := by
  rw [← Bool.not_eq_false, not_iff_not]
  cases dest with
  | rowEnd d => simp [RowState.endFree_iff, RowState.reservedByOther_eq_false, and_assoc]
  | garage => exact Block.garageClaimed_eq_false

/-- Checks 6 to 9 of R66 in their order, and the tag that acceptance takes. -/
theorem routeCheck_spec : (¬ b.Routes e u dest → routeCheck e b k dest u = .error .noRoute)
    ∧ (b.Routes e u dest →
        (b.LocksDest dest → routeCheck e b k dest u = .error .state)
        ∧ (¬ b.LocksDest dest → ¬ b.DestFree k u dest → routeCheck e b k dest u = .error .endBusy)
        ∧ (¬ b.LocksDest dest → b.DestFree k u dest →
            (8 ≤ (b.shuttle u).queue.length → routeCheck e b k dest u = .error .full)
            ∧ ((b.shuttle u).queue.length < 8 → ∀ tag, b.freeTag = some tag → routeCheck e b k dest u = .ok tag))) := by
  refine ⟨fun stuck => if_pos (noRoute_iff.mpr stuck), fun route => ?_⟩
  refine ⟨fun locked => ?_, fun unlocked busy => ?_, fun unlocked free => ⟨fun full => ?_, fun room tag lowest => ?_⟩⟩ <;>
    refine (if_neg (noRoute_iff.not.mpr (not_not_intro route))).trans ?_
  · exact if_pos (destLocked_iff.mpr locked)
  · exact (if_neg (destLocked_iff.not.mpr unlocked)).trans (if_pos (destBusy_iff.mpr busy))
  all_goals
    refine (if_neg (destLocked_iff.not.mpr unlocked)).trans ((if_neg (destBusy_iff.not.mpr (not_not_intro free))).trans ?_)
  · exact if_pos full
  · rw [if_neg (Nat.not_le.mpr room), lowest]

/-- A TRANSFER of the fleet port in a storm (R66, check 3). -/
theorem transferCheck_storm (present : destPresent e dest = true) (storm : b.storm = true) :
    transferCheck e b .fleet k dest = .error .weather := by
  simp [transferCheck, present, storm]

/-- A robot that no transfer may take (R66, check 4). -/
theorem transferCheck_untaken (present : destPresent e dest = true) (calm : b.storm = false)
    (untaken : ∀ source via, (b.robot k).TakenFrom e source via → (b.robot k).transfer ≠ none) :
    transferCheck e b .fleet k dest = .error .state := by
  simp only [transferCheck, present, calm]
  cases found : transferSource e (b.robot k) with
  | none => rfl
  | some x =>
    have has := untaken x.1 x.2 (takenFrom_of_transferSource found)
    simp [Option.isSome_iff_ne_none.mpr has]

/-- A robot that a transfer may take: checks 5 to 9 of R66. -/
theorem transferCheck_taken {source : Source} {via : Option ShuttleId} (present : destPresent e dest = true)
    (calm : b.storm = false) (taken : (b.robot k).TakenFrom e source via) (free : (b.robot k).transfer = none) :
    transferCheck e b .fleet k dest =
      if ownPlace (b.robot k) dest then .error .sameRow
      else via.elim (.error .noRoute) fun u => (routeCheck e b k dest u).map fun t => (source, u, t) := by
  simp only [transferCheck, present, calm, transferSource_takenFrom taken, free]
  cases via <;> rfl

/-- The checks all pass (R66), and the lowest free tag is taken (R67). -/
theorem transferCheck_accepts {source : Source} {tag : Tag} (present : destPresent e dest = true) (calm : b.storm = false)
    (taken : (b.robot k).TakenFrom e source (some u)) (free : (b.robot k).transfer = none)
    (other : ¬ (b.robot k).OwnPlace dest) (route : b.Routes e u dest) (unlocked : ¬ b.LocksDest dest)
    (claims : b.DestFree k u dest) (room : (b.shuttle u).queue.length < 8) (lowest : b.LowestFree tag) :
    transferCheck e b .fleet k dest = .ok (source, u, tag) := by
  obtain ⟨-, -, accepts⟩ := routeCheck_spec.2 route
  rw [transferCheck_taken present calm taken free, if_neg ((ownPlace_iff taken).not.mpr other), Option.elim_some,
    (accepts unlocked claims).2 room tag (freeTag_lowest lowest)]
  rfl

theorem execTransfer_refused {code : Code} (taken : Taken (.transfer dest) f s) (hk : robot.toNat = k.val)
    (present : destPresent s.env dest = true) (check : transferCheck s.env s.blk .fleet k dest = .error code) :
    exec (.transfer f robot dest) s = .next (answered (.transfer dest) f { code := code } s) := by
  unfold exec
  refine request_refused taken ?_
  rw [State.taken_env, if_pos present, onRobot_inside hk, State.taken_blk, askTransfer, check]
  rfl

theorem execTransfer_accepted {source : Source} {tag : Tag} (taken : Taken (.transfer dest) f s) (hk : robot.toNat = k.val)
    (present : destPresent s.env dest = true) (check : transferCheck s.env s.blk .fleet k dest = .ok (source, u, tag))
    (offers : Offers s.env none u (s.blk.accept .fleet k dest source u tag) c) :
    exec (.transfer f robot dest) s = .next
      { answered (.transfer dest) f { code := .accepted, payload := [BitVec.ofNat 8 tag.val] } s with blk := c } := by
  obtain ⟨n, hn, -, run⟩ := runs_offers (due := .plans []) offers
  unfold exec
  refine request_finished taken ?_ (run.finish (by omega))
  rw [State.taken_env, if_pos present, onRobot_inside hk, State.taken_blk, askTransfer, check]
  rfl

theorem destPresent_iff : destPresent e dest = true ↔ ∀ d, dest = .rowEnd d → (e.row d).present = true := by
  cases dest <;> simp [destPresent]

/-- Settles O31: each check is one branch of the acceptance test. -/
theorem transferChecksInOrder : Obligations.TransferChecksInOrder := by
  unfold Obligations.TransferChecksInOrder
  intro f robot k dest s taken hk rows
  have present := destPresent_iff.mpr rows
  have refused {code : Code} (check : transferCheck s.env s.blk .fleet k dest = .error code) :=
    execTransfer_refused taken hk present check
  refine ⟨fun storm => ?_, fun calm untaken => ?_, fun via calm source => ?_⟩
  · exact refused (transferCheck_storm present ((Block.storm_iff _).mpr storm))
  · refine refused (transferCheck_untaken present (Bool.eq_false_iff.mpr ((Block.storm_iff _).not.mpr calm)) ?_)
    intro source via taken free
    refine untaken via ⟨free, ?_⟩
    cases source with
    | rowEnd p => exact .inl ⟨p, taken⟩
    | carried u => exact .inr ⟨u, taken⟩
  · obtain ⟨free, source⟩ := source
    obtain ⟨source, takenFrom⟩ : ∃ source, (s.blk.robot k).TakenFrom s.env source via := by
      obtain ⟨p, h⟩ | ⟨u, h⟩ := source
      · exact ⟨.rowEnd p, h⟩
      · exact ⟨.carried u, h⟩
    have check := transferCheck_taken present (Bool.eq_false_iff.mpr ((Block.storm_iff _).not.mpr calm)) takenFrom free
    have own := ownPlace_iff (dest := dest) takenFrom
    refine ⟨fun same => ?_, fun other none' => ?_, fun u other route => ?_⟩
    · exact refused (check.trans (if_pos (own.mpr same)))
    · replace check := check.trans (if_neg (own.not.mpr other))
      cases via with
      | none => exact refused check
      | some u =>
        rw [Option.elim_some, routeCheck_spec.1 fun route => none' u ⟨rfl, route⟩] at check
        exact refused check
    · obtain ⟨rfl, route⟩ := route
      replace check := check.trans (if_neg (own.not.mpr other))
      rw [Option.elim_some] at check
      obtain ⟨locked, busy, accepts⟩ := (routeCheck_spec (k := k)).2 route
      refine ⟨fun h => refused ?_, fun h h1 => refused ?_, fun h h1 full => refused ?_⟩
      · rw [check, locked h]
        rfl
      · rw [check, busy h h1]
        rfl
      · rw [check, (accepts h h1).1 full]
        rfl

/-! ## Acceptance (R67) -/

theorem Block.accept_occupied {origin : Origin} {source : Source} {tag : Tag} (h : b.Occupied u) :
    (b.accept origin k dest source u tag).Occupied u := by
  have shuttle : (b.reserveDest dest tag).shuttle u = b.shuttle u := (reserveDest_quiet b dest tag).shuttle u
  unfold Block.Occupied at h ⊢
  simpa [Block.accept, shuttle] using h

/-- Settles O32: the checks all pass, and the cascade follows the offer of work. -/
theorem transferAccepted : Obligations.TransferAccepted := by
  unfold Obligations.TransferAccepted
  intro f robot k u tag source dest s taken hk calm free up room lowest from' to' claimed b ends
  have takenFrom : (s.blk.robot k).TakenFrom s.env source (some u) := by
    cases source with
    | rowEnd p =>
      obtain ⟨mode, location, via⟩ := from'
      exact ⟨mode, location, via.symm⟩
    | carried v =>
      obtain ⟨rfl, mode, location⟩ := from'
      exact ⟨mode, location, rfl⟩
  have checked : (∀ d, dest = .rowEnd d → (s.env.row d).present = true) ∧ ¬ (s.blk.robot k).OwnPlace dest
      ∧ s.blk.Routes s.env u dest ∧ ¬ s.blk.LocksDest dest ∧ s.blk.DestFree k u dest := by
    cases dest with
    | rowEnd d =>
      obtain ⟨other, present, via, unlocked, claims⟩ := to'
      refine ⟨by rintro _ ⟨⟩; exact present, ?_, ⟨up, by rintro _ ⟨⟩; exact via⟩, ?_, claims⟩
      · rw [Robot.OwnPlace]
        cases source with
        | rowEnd p => exact fun own => other (congrArg Source.rowEnd (Location.rowEnd.inj (takenFrom.2.1.symm.trans own)))
        | carried v => exact fun own => nomatch takenFrom.2.1.symm.trans own
      · rintro ⟨_, ⟨⟩, locked⟩
        exact locked unlocked
    | garage =>
      refine ⟨nofun, ?_, ⟨up, nofun⟩, by rintro ⟨_, ⟨⟩, _⟩, to'⟩
      rintro ⟨mode, inGarage⟩
      cases source with
      | rowEnd p => exact nomatch mode.symm.trans takenFrom.1
      | carried v => exact absurd inGarage (by simp [to'.1 k from'.2.2])
  obtain ⟨rows, other, route, unlocked, claims⟩ := checked
  have storm : s.blk.storm = false := Bool.eq_false_iff.mpr ((Block.storm_iff _).not.mpr (not_or.mpr calm))
  have check := transferCheck_accepts (destPresent_iff.mpr rows) storm takenFrom free other route unlocked claims room lowest
  have block : s.blk.accept .fleet k dest source u tag = b := by
    have robot : (s.blk.reserveDest dest tag).robot k = s.blk.robot k := by cases dest <;> rfl
    refine congrArg (fun c : Block => c.modShuttle u _) (Block.modRobot_congr ?_)
    rw [robot]
    cases source with
    | rowEnd p => rfl
    | carried v => rw [takenFrom.1]
  have offered (c : Block) (offers : Offers s.env none u b c) : ends c :=
    execTransfer_accepted taken hk (destPresent_iff.mpr rows) check (block ▸ offers)
  exact ⟨fun busy => offered b (.none b (.inr (block ▸ Block.accept_occupied busy))), offered⟩

end Sys2Proof.Machine
end

section
/-! PROOF. CLEAR SHUTTLE (R79) and LINK RESUME (R92), the step expiry (R76) with the failure of a running transfer (R75), and the
polls (R71). -/

namespace Sys2Proof.Machine

open Sys2Proof

variable {s : State} {f : Frame} {e : Env} {b : Block} {u : ShuttleId} {t : Transfer} {x : RunStep} {why : FailReason}

/-! ## CLEAR SHUTTLE and LINK RESUME -/

theorem execClearShuttle_refused {shuttle : Byte} (taken : Taken .clearShuttle f s) (hu : shuttle.toNat = u.val)
    (up : (s.blk.shuttle u).mode ≠ .faulted) :
    exec (.clearShuttle f shuttle) s = .next (answered .clearShuttle f { code := .state } s) := by
  unfold exec
  refine request_refused taken ?_
  simp only [shuttleArg_inside hu, State.taken_blk, if_neg up]

theorem execClearShuttle_cleared {shuttle : Byte} (taken : Taken .clearShuttle f s) (hu : shuttle.toNat = u.val)
    (down : (s.blk.shuttle u).mode = .faulted) :
    exec (.clearShuttle f shuttle) s = .next { answered .clearShuttle f { code := .ok } s with blk := s.blk.makeLocal u } := by
  unfold exec
  refine request_served taken ?_
  simp only [shuttleArg_inside hu, State.taken_blk, if_pos down]

/-- A STATUS placed for a LOCAL shuttle counts for no step (R71). -/
theorem placeStatus_local (up : b.link.enabled = true) (still : (b.shuttle u).mode = .localUnknown) :
    b.placeStatus u =
      { b with link := { b.link with queue := b.link.queue.set u (some { op := .status, counts := false }) } } := by
  have stepping : (b.shuttle u).stepping = false := by simp [Shuttle.stepping, still]
  rw [Block.placeStatus, stepping, Block.placeLink_eq, if_pos up]
  rfl

theorem placeStatus_foldl (us : List ShuttleId) (b : Block) (up : b.link.enabled = true)
    (still : ∀ u ∈ us, (b.shuttle u).mode = .localUnknown) :
    ∃ q : Vector (Option Transaction) 4,
      us.foldl (fun c u => c.placeStatus u) b = { b with link := { b.link with queue := q } }
      ∧ ∀ u : ShuttleId, q[u] = if u ∈ us then some { op := .status, counts := false } else b.link.queue[u] := by
  induction us generalizing b with
  | nil => exact ⟨b.link.queue, rfl, fun u => by simp⟩
  | cons v us ih =>
    rw [List.foldl_cons, placeStatus_local up (still v List.mem_cons_self)]
    obtain ⟨q, fold, entries⟩ := ih { b with link := { b.link with
      queue := b.link.queue.set v (some { op := .status, counts := false }) } } up fun u hu => still u (List.mem_cons_of_mem v hu)
    refine ⟨q, fold, fun u => ?_⟩
    rw [entries]
    by_cases hu : u = v
    · subst hu
      simp
    · simp [hu, Fin.val_ne_of_ne (Ne.symm hu)]

theorem execLinkResume_refused (taken : Taken .linkResume f s) (h : s.contend = true ∨ s.blk.link.enabled = true) :
    exec (.linkResume f) s = .next (answered .linkResume f { code := .state } s) := by
  unfold exec
  refine request_refused taken ?_
  simp only [State.taken_contend, State.taken_blk, if_pos h]

theorem execLinkResume_resumed (taken : Taken .linkResume f s) (h : ¬ (s.contend = true ∨ s.blk.link.enabled = true)) :
    exec (.linkResume f) s = .next { answered .linkResume f { code := .ok } s with blk := s.blk.resumeLink } := by
  unfold exec
  refine request_served taken ?_
  simp only [State.taken_contend, State.taken_blk, if_neg h]

/-- Settles O33: CLEAR SHUTTLE makes the shuttle LOCAL as every request does, and the resume places its STATUSes one after
another. -/
theorem shuttlesAreMadeLocal : Obligations.ShuttlesAreMadeLocal := by
  unfold Obligations.ShuttlesAreMadeLocal
  refine ⟨fun f shuttle s taken => ⟨fun outside => ?_, fun u hu => ⟨fun up => ?_, fun down => ?_⟩⟩,
    fun f s taken => ⟨fun h => execLinkResume_refused taken h, fun contend down => ?_⟩⟩
  · unfold exec
    refine request_refused taken ?_
    rw [shuttleArg_outside outside]
  · exact execClearShuttle_refused taken hu up
  · exact ⟨_, execClearShuttle_cleared taken hu down, makeLocal_madeLocal s.blk u⟩
  · obtain ⟨q, fold, entries⟩ := placeStatus_foldl (allShuttles.filter fun u => (s.blk.shuttle u).mode == .localUnknown)
      { s.blk with link := { s.blk.link with enabled := true } } rfl fun u hu => beq_iff_eq.mp (List.mem_filter.mp hu).2
    refine ⟨q, ?_, fun u => ?_⟩
    · rw [execLinkResume_resumed taken (by simp [contend, down]), Block.resumeLink, fold]
    · rw [entries]
      simp [allShuttles]

/-! ## The failure of a running transfer (R75) -/

theorem record_split {z : Shuttle} {before after : List Transfer} (queue : z.queue = before ++ t :: after)
    (unique : ∀ y ∈ before ++ after, y.tag ≠ t.tag) : z.record t.tag = some t := by
  have others : before.find? (fun y => y.tag == t.tag) = none :=
    List.find?_eq_none.mpr fun y hy => by simpa using unique y (List.mem_append_left after hy)
  rw [Shuttle.record, queue, List.find?_append, others, Option.none_or, List.find?_cons_of_pos (by simp)]

/-- Part 3 of R75 for a running transfer: its robot stands at its source, or is left on the shuttle. -/
theorem Transfer.leaveRobot_running (running : t.step = .running x)
    (source : (x = .moveToSource ∨ x = .loading) → ∃ r, t.source = .rowEnd r) (u : ShuttleId) (z : Robot) :
    let lost := x = .moveToDest ∨ x = .unloading
    t.leaveRobot u z = { z with
      transfer := none
      mode := if ¬ lost ∧ z.mode = .waitTransfer then .idle else z.mode
      location := if lost then .carried u else z.location
      inGarage := if lost then false else z.inGarage
      order := if lost then .attend else z.order } := by
  unfold Transfer.leaveRobot
  rw [running]
  cases x with
  | moveToSource | loading =>
    obtain ⟨r, hr⟩ := source (by simp)
    rw [hr]
    simp
  | moveToDest | unloading => simp

/-- Parts 1 to 4 of R75 for the current, running transfer of a shuttle. -/
theorem failParts_running {rest : List Transfer} (running : t.step = .running x)
    (current : (b.shuttle u).current = some t.tag) (left : ((b.shuttle u).queue.filter fun y => y.tag != t.tag) = rest)
    (source : (x = .moveToSource ∨ x = .loading) → ∃ r, t.source = .rowEnd r) (why : FailReason) :
    b.failParts u t why = b.stepFailed u t x why rest := by
  have own : ((b.shuttle u).current == some t.tag) = true := beq_iff_eq.mpr current
  have shuttle : (b.modShuttle u fun y =>
        { y with queue := y.queue.filter fun z => z.tag != t.tag, current := if true = true then none else y.current })
      = b.modShuttle u fun y => { y with current := none, queue := rest } :=
    Block.modShuttle_congr (by rw [left]; rfl)
  unfold Block.failParts Block.removeRecord
  dsimp only
  rw [own, shuttle, Block.setOutcome, Block.modRobot_modRobot,
    show t.leaveRobot u = _ from funext (Transfer.leaveRobot_running running source u)]
  rfl

theorem faultShuttle_eq (b : Block) (u : ShuttleId) (why : ShuttleCause) : b.faultShuttle u why = b.shuttleFaulted u why := rfl

theorem shuttleFaulted_shuttle (b : Block) (u : ShuttleId) (why : ShuttleCause) :
    (b.shuttleFaulted u why).shuttle u = { b.shuttle u with mode := .faulted, cause := some why, pollDue := none } :=
  (Block.shuttle_modShuttle _ u _ u).trans (if_pos rfl)

theorem stepFailed_shuttle (b : Block) (u : ShuttleId) (rest : List Transfer) :
    (b.stepFailed u t x why rest).shuttle u = { b.shuttle u with current := none, queue := rest } := by
  rw [Block.stepFailed, Block.modRobot_shuttle, destReleased_shuttle, Block.shuttle_modShuttle, if_pos rfl, Block.cancel_shuttle]

/-- A FAULTED shuttle takes no work (R69). -/
theorem occupied_faulted (down : (b.shuttle u).mode = .faulted) : b.Occupied u := by
  simp [Block.Occupied, down]

/-- An event that makes the shuttle of a running transfer of origin FLEET FAULTED, and fails the transfer (R72, R76). -/
theorem finish_faulted_fails {before after : List Transfer} (cause : ShuttleCause)
    (current : (b.shuttle u).current = some t.tag) (queue : (b.shuttle u).queue = before ++ t :: after)
    (unique : ∀ y ∈ before ++ after, y.tag ≠ t.tag) (running : t.step = .running x) (origin : t.origin = .fleet)
    (source : (x = .moveToSource ∨ x = .loading) → ∃ r, t.source = .rowEnd r) :
    Handed.finish e ((b.faultShuttle u cause).failTransfer u t why) =
      some ((b.shuttleFaulted u cause).stepFailed u t x why (before ++ after)) := by
  have shuttle := shuttleFaulted_shuttle b u cause
  have left := filter_tag_ne (queue := ((b.shuttleFaulted u cause).shuttle u).queue) (by rw [shuttle]; exact queue) unique
  have fails : (b.faultShuttle u cause).failTransfer u t why =
      ((b.shuttleFaulted u cause).stepFailed u t x why (before ++ after), [.offer u]) := by
    rw [faultShuttle_eq, Block.failTransfer, failParts_running running (by rw [shuttle]; exact current) left source,
      Block.failHandOn, origin]
    rfl
  rw [fails]
  refine (Runs.offer_passed (.inr (occupied_faulted ?_))).finish (n := 1) (by omega)
  rw [stepFailed_shuttle, shuttle]

/-! ## SHUTTLE STEP EXPIRY and POLL DUE -/

theorem Block.cancel_cancel (b : Block) (kind : DeadlineKind) : (b.cancel kind).cancel kind = b.cancel kind := by
  simp [Block.cancel, List.filter_filter]

theorem stepFailed_cancel (b : Block) (u : ShuttleId) (cause : ShuttleCause) (rest : List Transfer) :
    ((b.cancel (.shuttleStep u)).shuttleFaulted u cause).stepFailed u t x why rest =
      (b.shuttleFaulted u cause).stepFailed u t x why rest := by
  have once : ((b.cancel (.shuttleStep u)).shuttleFaulted u cause).cancel (.shuttleStep u) =
      (b.shuttleFaulted u cause).cancel (.shuttleStep u) := (b.shuttleFaulted u cause).cancel_cancel _
  unfold Block.stepFailed
  rw [once]

theorem expiry_due {kind : DeadlineKind} {rule : Block → Handed} {c : Block} (awake' : s.inReset = false)
    (due : s.blk.expires s.env kind = true) (ends : Handed.finish s.env (rule (s.blk.cancel kind)) = some c) :
    s.expiry kind rule = .next { s with blk := c } := by
  simp [State.expiry, awake, awake', due, State.event, ends]

theorem expiry_none {kind : DeadlineKind} {rule : Block → Handed} (awake' : s.inReset = false)
    (due : s.blk.expires s.env kind = false) : s.expiry kind rule = .next s := by
  simp [State.expiry, awake, awake', due]

theorem execPollDue_eq (awake' : s.inReset = false) : exec (.pollDue u) s = .next { s with blk := s.blk.takePoll u } := by
  show awake s _ = _
  rw [awake, awake']
  rfl

/-- Settles O34: the expiry is a failure of the running transfer on a FAULTED shuttle, and a poll is one placement. -/
theorem stepTimeoutAndPolls : Obligations.StepTimeoutAndPolls := by
  unfold Obligations.StepTimeoutAndPolls
  refine ⟨fun u s up => ⟨fun due => expiry_none up due, ?_⟩, fun u s up => ⟨fun notDue => ?_, fun due => ?_⟩⟩
  · rintro _ before after t x due current queue rfl unique running origin source
    refine expiry_due up due ?_
    rw [shuttleStepExpired]
    simp only [Block.cancel_shuttle, current]
    have record : (((s.blk.cancel (.shuttleStep u)).faultShuttle u .timeout).shuttle u).record t.tag = some t := by
      rw [faultShuttle_record]
      exact record_split queue unique
    rw [Block.failTag, record]
    dsimp only
    rw [finish_faulted_fails (b := s.blk.cancel (.shuttleStep u)) .timeout current queue unique running origin source,
      stepFailed_cancel]
  · rw [execPollDue_eq up, Block.takePoll, if_neg notDue]
  · rw [execPollDue_eq up, Block.takePoll, if_pos due, Block.placeStatus, Block.shuttle_modShuttle, if_pos rfl]
    rfl

end Sys2Proof.Machine
end

section
/-! PROOF. What a valid status comes to (R71, R83, R86), and the first status of a LOCAL shuttle (R78) with its offer of work. -/

namespace Sys2Proof.Machine

open Sys2Proof

variable {s : State} {data : StatusBytes} {e : Env} {b c d : Block} {u : ShuttleId} {k : RobotId} {r : RowId} {st : Status}
  {t : Transfer} {why : FailReason} {before after : List Transfer}

/-! ## Valid statuses (R71, R83, R86) -/

theorem shown_shuttle (s : State) (u : ShuttleId) (st : Status) :
    (s.shown u st).shuttle u = { s.blk.shuttle u with
      lastFault := st.fault, pollDue := some s.env.params.pollInterval
      position := some (if st.garage then .garage else .rowEnd st.row) } :=
  (Block.shuttle_modShuttle _ u _ u).trans (if_pos rfl)

theorem State.Shows.flies (shows : s.Shows data u st) : ∃ x, s.blk.link.inFlight = some x :=
  let ⟨_, _, x, flies, _⟩ := shows
  ⟨x, flies⟩

/-- The fault code, the poll due and the position that a valid status leaves are one change of the shuttle. -/
theorem shown_eq (s : State) (u : ShuttleId) (st : Status) :
    (((({ s.blk with link := { s.blk.link with inFlight := none } } : Block).modShuttle u fun x =>
        { x with lastFault := st.fault }).modShuttle u fun x =>
        { x with pollDue := some s.env.params.pollInterval }).modShuttle u fun x => { x with position := some st.place }) =
      s.shown u st := by
  rw [Block.modShuttle_modShuttle, Block.modShuttle_modShuttle]
  rfl

/-- The completion of a valid STATUS hands it to the rule of the shuttle's state. -/
theorem completes_shown {x : Flight} (shows : s.Shows data u st) (flies : s.blk.link.inFlight = some x) :
    ((s.blk.shuttle u).mode = .localUnknown →
      exec (.transactionCompletion data) s = s.event (firstStatus s.env u st (s.shown u st)))
    ∧ ((s.blk.shuttle u).mode = .moving ∨ (s.blk.shuttle u).mode = .docking →
      exec (.transactionCompletion data) s = s.event (steppingStatus s.env u x.txn.counts st (s.shown u st))) := by
  obtain ⟨up, valid, y, flies', rfl, kept, status⟩ := shows
  obtain rfl : x = y := Option.some.inj (flies.symm.trans flies')
  have completes : exec (.transactionCompletion data) s = s.event (statusDone s.env x.shuttle x.txn.counts data
      { s.blk with link := { s.blk.link with inFlight := none } }) := by
    show awake s (s.event (completeTransaction s.env data s.blk)) = _
    simp only [awake, up, completeTransaction, flies, kept, status]
    rfl
  have same : ({ s.blk with link := { s.blk.link with inFlight := none } } : Block).shuttle x.shuttle = s.blk.shuttle x.shuttle :=
    rfl
  rw [completes]
  unfold statusDone
  dsimp only
  rw [same, valid]
  refine ⟨fun mode => ?_, fun mode => ?_⟩
  · simp only [mode]
    rw [← shown_eq]
    rfl
  · obtain mode | mode := mode <;>
      · simp only [mode]
        rw [← shown_eq]
        rfl

theorem event_finishes {x : Handed} (ends : Handed.finish s.env x = some c) : s.event x = .next { s with blk := c } := by
  rw [State.event, ends]

/-! ## Offers after a failure (R69, R75) -/

/-- A shuttle that has been offered work takes no more. -/
theorem Block.Offered.again (free : ¬ b.Occupied u) (offered : b.Offered e u c) : Offers e none u c c := by
  obtain ⟨none', rfl⟩ | ⟨before, t, after, x, op, -, -, -, -, -, -, rfl⟩ := offered
  · exact .taken c c nofun free (.inl ⟨none', rfl⟩)
  · refine .none _ (.inr ?_)
    simp [Block.Occupied]

/-- An event that offers the shuttle work. -/
theorem finish_offered (free : ¬ b.Occupied u) (offered : b.Offered e u c) : Handed.finish e (b, [.offer u]) = some c :=
  have ⟨_, short, _, run⟩ := runs_offers (due := .plans []) (.taken (hold := none) b c nofun free offered)
  run.finish (by omega)

/-- An event that leaves the shuttle without work. -/
theorem finish_occupied (busy : b.Occupied u) : Handed.finish e (b, [.offer u]) = some b :=
  (Runs.offer_passed (.inr busy)).finish (n := 1) (by omega)

/-- The failure of a QUEUED record of origin FLEET that is not its shuttle's current one (R75). -/
theorem failQueued_fleet (queue : (b.shuttle u).queue = before ++ t :: after) (unique : ∀ y ∈ before ++ after, y.tag ≠ t.tag)
    (queued : t.step = .queued) (waits : (b.shuttle u).current ≠ some t.tag) (origin : t.origin = .fleet) (why : FailReason) :
    b.failQueued u t.tag why = (b.queuedFailed u t why (before ++ after), [.offer u]) := by
  rw [Block.failQueued, record_split queue unique]
  dsimp only
  rw [if_pos queued, Block.failTransfer, failParts_queued queued waits (filter_tag_ne queue unique), Block.failHandOn, origin]
  rfl

theorem queuedFailed_shuttle (b : Block) (u : ShuttleId) (t : Transfer) (why : FailReason) (rest : List Transfer) :
    (b.queuedFailed u t why rest).shuttle u = { b.shuttle u with queue := rest } := by
  rw [Block.queuedFailed, Block.modRobot_shuttle, destReleased_shuttle, Block.shuttle_modShuttle, if_pos rfl]

/-- An event that fails a QUEUED record of an IDLE shuttle, and then offers the shuttle work: the offer of the failure is the
one that may give it a record. -/
theorem finish_fails_offered (queue : (b.shuttle u).queue = before ++ t :: after)
    (unique : ∀ y ∈ before ++ after, y.tag ≠ t.tag) (queued : t.step = .queued) (origin : t.origin = .fleet)
    (free : ¬ b.Occupied u) (offered : (b.queuedFailed u t why (before ++ after)).Offered e u c) :
    Handed.finish e (b, [.failRecord u t.tag why, .offer u]) = some c := by
  have idle := not_not.mp free
  have free' : ¬ (b.queuedFailed u t why (before ++ after)).Occupied u := by
    rwa [Block.Occupied, queuedFailed_shuttle]
  obtain ⟨n, short, -, first⟩ := runs_offers (due := .plans []) (.taken (hold := none) _ c nofun free' offered)
  obtain ⟨m, short', -, second⟩ := runs_offers (due := .plans []) (offered.again free')
  have fails : Runs e none (n + 1) (.plans []) [.failRecord u t.tag why] b (.plans []) c := by
    refine .handled rfl ?_
    rw [handle, failQueued_fleet queue unique queued (by simp [idle.2]) origin]
    exact first
  exact (fails.append second).finish (by omega)

/-! ## The six checks (R78) -/

/-- Robot `k` boarded shuttle `u` from the end of row `r` (R78, check 3). -/
abbrev Block.Boards (u : ShuttleId) (k : RobotId) (r : RowId) (b : Block) : Prop :=
  (b.robot k).location = .rowEnd r ∧ ((b.robot k).mode = .idle ∨ (b.robot k).mode = .faulted)
    ∧ (b.robot k).transfer = none ∧ (∀ r', (b.row r').holder ≠ some k)
    ∧ ∃ lo hi, (b.shuttle u).range = some (lo, hi) ∧ lo.val ≤ r.val / 16 ∧ r.val / 16 ≤ hi.val

theorem Shuttle.serves_iff (x : Shuttle) (r : RowId) :
    x.serves r = true ↔ ∃ lo hi, x.range = some (lo, hi) ∧ lo.val ≤ r.val / 16 ∧ r.val / 16 ≤ hi.val := by
  rw [Shuttle.serves]
  cases x.range with
  | none => simp
  | some y =>
    obtain ⟨lo, hi⟩ := y
    simp

theorem heldRow_eq_none : b.heldRow k = none ↔ ∀ r, (b.row r).holder ≠ some k :=
  ⟨heldRow_none, fun free => List.find?_eq_none.mpr fun r _ => by simpa using free r⟩

theorem boardedFrom_iff : b.boardedFrom u k = some r ↔ b.Boards u k r := by
  rw [Block.Boards, ← Shuttle.serves_iff, ← heldRow_eq_none]
  cases location : (b.robot k).location with
  | rowEnd p =>
    simp only [Block.boardedFrom, location, Option.ite_none_right_eq_some, Option.some.injEq, Location.rowEnd.injEq]
    constructor
    · rintro ⟨tests, rfl⟩
      exact ⟨rfl, tests⟩
    · rintro ⟨rfl, tests⟩
      exact ⟨tests, rfl⟩
  | nowhere | onRow p | carried v | unknown => simp [Block.boardedFrom, location]

/-- The robot found aboard leaves the row end at which it boarded (R78, check 3). -/
def Block.broughtAboard (u : ShuttleId) (k : RobotId) (r : RowId) (garage : Bool) (b : Block) : Block :=
  ((b.modRow r fun y => { y with occupant := none }).modRobot k fun z =>
    { z with
      mode := if z.mode = .faulted then .faulted else .carried, location := .carried u, inGarage := garage
      order := .attend }).shuttleSettled u (some k)

theorem firstStatusChecks_fault (fault : st.state = .fault) :
    firstStatusChecks u st b = (b.shuttleFaulted u .reported, []) := if_pos fault

theorem firstStatusChecks_carried (sound : st.state ≠ .fault) (load : st.load = some k)
    (aboard : (b.robot k).location = .carried u) : firstStatusChecks u st b = (b.shuttleSettled u (some k), []) := by
  simp only [firstStatusChecks, if_neg sound, load, if_pos aboard]
  rfl

theorem firstStatusChecks_boarded (sound : st.state ≠ .fault) (load : st.load = some k) (boards : b.Boards u k r) :
    firstStatusChecks u st b = (b.broughtAboard u k r st.garage,
      if st.garage then ((b.shuttle u).otherGarage k).elim [] fun z => [.failRecord u z.tag .lost] else []) := by
  have ashore : ¬ (b.robot k).location = .carried u := fun aboard => nomatch aboard.symm.trans boards.1
  simp only [firstStatusChecks, if_neg sound, load, if_neg ashore, boardedFrom_iff.mpr boards]
  cases (b.shuttle u).otherGarage k <;> rfl

theorem firstStatusChecks_unknown (sound : st.state ≠ .fault) (load : st.load = some k)
    (ashore : (b.robot k).location ≠ .carried u) (elsewhere : ∀ r, ¬ b.Boards u k r) :
    firstStatusChecks u st b = ((b.shuttleFaulted u .loadUnknown).modShuttle u fun y => { y with load := none }, []) := by
  have nowhere : b.boardedFrom u k = none :=
    Option.eq_none_iff_forall_ne_some.mpr fun r boards => elsewhere r (boardedFrom_iff.mp boards)
  simp only [firstStatusChecks, if_neg sound, load, if_neg ashore, nowhere]
  rfl

theorem firstStatusChecks_empty (sound : st.state ≠ .fault) (load : st.load = none)
    (empty : ∀ k, (b.robot k).location ≠ .carried u) : firstStatusChecks u st b = (b.shuttleSettled u none, []) := by
  have none' : b.carriedBy u = none := List.find?_eq_none.mpr fun k _ => by simpa using empty k
  simp only [firstStatusChecks, if_neg sound, load, none']
  rfl

theorem carriedBy_only (aboard : (b.robot k).location = .carried u) (only : ∀ j, j ≠ k → (b.robot j).location ≠ .carried u) :
    b.carriedBy u = some k := by
  cases found : b.carriedBy u with
  | none => exact absurd aboard (by simpa using List.find?_eq_none.mp found k (List.mem_finRange k))
  | some j =>
    have carried : (b.robot j).location = .carried u := by simpa using List.find?_some found
    exact congrArg some (by_contra fun other => only j other carried)

theorem firstStatusChecks_lost (sound : st.state ≠ .fault) (load : st.load = none)
    (aboard : (b.robot k).location = .carried u) (only : ∀ j, j ≠ k → (b.robot j).location ≠ .carried u) :
    firstStatusChecks u st b = ((b.loseRobot k).shuttleSettled u none,
      (b.robot k).transfer.elim [] fun tag => [.failRecord u tag .lost]) := by
  simp only [firstStatusChecks, if_neg sound, load, carriedBy_only aboard only]
  cases (b.robot k).transfer <;> rfl

/-! ## The garage (R78, check 3) -/

theorem otherGarage_none (none' : ∀ t ∈ (b.shuttle u).queue, ¬ (t.step = .queued ∧ t.dest = .garage ∧ t.robot ≠ k)) :
    (b.shuttle u).otherGarage k = none := List.find?_eq_none.mpr fun t ht => by
  simpa [and_assoc, -not_and] using none' t ht

theorem otherGarage_first (queue : (b.shuttle u).queue = before ++ t :: after)
    (other : t.step = .queued ∧ t.dest = .garage ∧ t.robot ≠ k)
    (first : ∀ y ∈ before, ¬ (y.step = .queued ∧ y.dest = .garage ∧ y.robot ≠ k)) :
    (b.shuttle u).otherGarage k = some t := by
  rw [Shuttle.otherGarage, queue, List.find?_append,
    List.find?_eq_none.mpr fun y hy => by simpa [and_assoc, -not_and] using first y hy, Option.none_or,
    List.find?_cons_of_pos (by simp [other])]

/-- An event that finds a robot in the garage of an IDLE shuttle, and then offers the shuttle work. -/
theorem finish_garage (free : ¬ b.Occupied u) (garage : b.GarageTaken u k why c) (offered : c.Offered e u d) :
    Handed.finish e (b, ((b.shuttle u).otherGarage k).elim [] (fun z => [.failRecord u z.tag why]) ++ [.offer u]) = some d := by
  obtain ⟨none', rfl⟩ | ⟨before, t, after, queue, other, origin, first, unique, rfl⟩ := garage
  · rw [otherGarage_none none']
    exact finish_offered free offered
  · rw [otherGarage_first queue other first]
    exact finish_fails_offered queue unique other.1 origin free offered

/-! ## The first status (R78) -/

theorem shuttleSettled_shuttle (b : Block) (u : ShuttleId) (load : Option RobotId) :
    (b.shuttleSettled u load).shuttle u = { b.shuttle u with mode := .idle, load := load } :=
  (Block.shuttle_modShuttle b u _ u).trans (if_pos rfl)

theorem shuttleSettled_free (load : Option RobotId) (current : (b.shuttle u).current = none) :
    ¬ (b.shuttleSettled u load).Occupied u := by
  simp [Block.Occupied, shuttleSettled_shuttle, current]

/-- With nothing IN_DOUBT the first status makes the checks of R78, and offers the shuttle work. -/
theorem firstStatus_undoubted {h : List HandOn} (current : (b.shuttle u).current = none)
    (checks : firstStatusChecks u st b = (c, h)) : firstStatus e u st b = (c, h ++ [.offer u]) := by
  have clear : (b.shuttle u).doubted = none := by simp only [Shuttle.doubted, current, Option.bind_none]
  simp only [firstStatus, clear, checks]

/-- Settles O38: a `firstStatusChecks_` lemma for each check, and the offer of work that follows it. -/
theorem firstStatusSettlesTheShuttle : Obligations.FirstStatusSettlesTheShuttle := by
  unfold Obligations.FirstStatusSettlesTheShuttle
  intro data u st s shows mode current b ends offered boards
  obtain ⟨x, flies⟩ := shows.flies
  have shuttle : b.shuttle u = _ := shown_shuttle s u st
  have none' : (b.shuttle u).current = none := by rw [shuttle]; exact current
  have event {c d : Block} {h : List HandOn} (checks : firstStatusChecks u st b = (c, h))
      (finish : Handed.finish s.env (c, h ++ [.offer u]) = some d) : ends d := by
    refine ((completes_shown shows flies).1 mode).trans ?_
    rw [firstStatus_undoubted none' checks]
    exact event_finishes finish
  have boarded (k : RobotId) (r : RowId) : b.Boards u k r ↔ boards k r := by
    rw [Block.Boards, shuttle]
    exact Iff.rfl
  have free (load : Option RobotId) := shuttleSettled_free load none'
  refine ⟨fun fault => ?_, fun sound k load => ⟨fun aboard d taken => ?_, fun r hr => ?_, fun ashore elsewhere => ?_⟩,
    fun sound load => ⟨fun empty d taken => ?_, fun k aboard only => ?_⟩⟩
  · refine event (firstStatusChecks_fault fault) (finish_occupied (occupied_faulted ?_))
    rw [shuttleFaulted_shuttle]
  · exact event (firstStatusChecks_carried sound load aboard) (finish_offered (free _) taken)
  · have checks := firstStatusChecks_boarded sound load ((boarded k r).mpr hr)
    have free : ¬ (b.broughtAboard u k r st.garage).Occupied u :=
      shuttleSettled_free (b := (b.modRow r _).modRobot k _) (some k) none'
    refine ⟨fun clear d taken => ?_, fun garage c claimed d taken => ?_⟩
    · rw [if_neg (by simp [clear])] at checks
      exact event checks (finish_offered free taken)
    · have same : ((b.broughtAboard u k r st.garage).shuttle u).otherGarage k = (b.shuttle u).otherGarage k := by
        rw [Block.broughtAboard, shuttleSettled_shuttle]
        rfl
      rw [if_pos garage, ← same] at checks
      exact event checks (finish_garage free claimed taken)
  · refine event (firstStatusChecks_unknown sound load ashore fun r => (boarded k r).not.mpr (elsewhere r))
      (finish_occupied (occupied_faulted ?_))
    rw [Block.shuttle_modShuttle, if_pos rfl, shuttleFaulted_shuttle]
  · exact event (firstStatusChecks_empty sound load empty) (finish_offered (free _) taken)
  · have checks := firstStatusChecks_lost sound load (b := b) (k := k) aboard only
    have free : ¬ ((b.loseRobot k).shuttleSettled u none).Occupied u :=
      shuttleSettled_free (b := b.modRobot k _) none none'
    refine ⟨fun untasked d taken => ?_, fun before t after transfer queue unique own queued source origin d taken => ?_⟩
    · rw [show (b.robot k).transfer = none from untasked] at checks
      exact event checks (finish_offered free taken)
    · rw [show (b.robot k).transfer = some t.tag from transfer] at checks
      refine event checks (finish_fails_offered ?_ unique queued origin free taken)
      rw [shuttleSettled_shuttle, Block.loseRobot, Block.modRobot_shuttle, shuttle]
      exact queue

end Sys2Proof.Machine
end

section
/-! PROOF. The status of a MOVING or DOCKING shuttle (R72): the steps that follow one another, the DONE of a transfer with what its
event hands on (R73), the reported fault, and the status that does not match. -/

namespace Sys2Proof.Machine

open Sys2Proof

variable {e : Env} {hold : Option ShuttleId} {due due' : Due} {b c d : Block} {u : ShuttleId} {k : RobotId} {st : Status}
  {t : Transfer} {y go : RunStep} {op : LinkOp} {load : Option RobotId} {before after : List Transfer} {counts : Bool}

/-! ## The status and the running step (R72) -/

theorem Status.place_rowEnd {r : RowId} : st.place = .rowEnd r ↔ st.garage = false ∧ st.row = r := by
  cases garage : st.garage <;> simp [Status.place, garage]

theorem Status.place_garage : st.place = .garage ↔ st.garage = true := by
  cases garage : st.garage <;> simp [Status.place, garage]

theorem Transfer.matches_iff : t.matches y st = true ↔
    st.state = .ready ∧ t.target y = some st.place ∧ st.load = t.expectedLoad y := by
  simp [Transfer.matches, and_assoc]

theorem Transfer.expectedLoad_eq (t : Transfer) (y : RunStep) :
    t.expectedLoad y = if y = .loading ∨ y = .moveToDest then some t.robot else none := by
  cases y <;> rfl

/-- The status shows the shuttle at the target of the running step (R72). -/
abbrev Transfer.Reaches (t : Transfer) (y : RunStep) (st : Status) : Prop :=
  match y, t.source, t.dest with
  | .moveToSource, .rowEnd p, _ | .loading, .rowEnd p, _ => st.garage = false ∧ st.row = p
  | .moveToDest, _, .rowEnd d | .unloading, _, .rowEnd d => st.garage = false ∧ st.row = d
  | .moveToDest, _, .garage => st.garage = true
  | _, _, _ => False

theorem reaches_of_target (from' : (y = .moveToSource ∨ y = .loading) → ∃ p, t.source = .rowEnd p)
    (place : t.target y = some st.place) : t.Reaches y st := by
  obtain ⟨tag, robot, source, dest, origin, step⟩ := t
  cases y with
  | moveToSource | loading =>
    obtain ⟨p, rfl : source = .rowEnd p⟩ := from' (by simp)
    exact Status.place_rowEnd.mp (Option.some.inj place).symm
  | moveToDest =>
    cases dest with
    | rowEnd d => exact Status.place_rowEnd.mp (Option.some.inj place).symm
    | garage => exact Status.place_garage.mp (Option.some.inj place).symm
  | unloading =>
    cases dest with
    | rowEnd d => exact Status.place_rowEnd.mp (Option.some.inj place).symm
    | garage => cases place

theorem Transfer.target_source {p : RowId} (at' : y = .moveToSource ∨ y = .loading) (source : t.source = .rowEnd p) :
    t.target y = some (.rowEnd p) := by
  obtain rfl | rfl := at' <;> simp only [Transfer.target, source]

theorem Transfer.target_unloading {p : RowId} (dest : t.dest = .rowEnd p) : t.target .unloading = some (.rowEnd p) := by
  simp only [Transfer.target, dest]

theorem Transfer.command_loading {p : RowId} (source : t.source = .rowEnd p) :
    t.command .loading = some (.load t.robot p) := by
  obtain ⟨tag, robot, source', dest, origin, step⟩ := t
  obtain rfl : source' = .rowEnd p := source
  rfl

theorem Transfer.command_unloading {p : RowId} (dest : t.dest = .rowEnd p) :
    t.command .unloading = some (.unload t.robot p) := by
  obtain ⟨tag, robot, source, dest', origin, step⟩ := t
  obtain rfl : dest' = .rowEnd p := dest
  rfl

theorem Transfer.command_moveToDest (t : Transfer) : t.command .moveToDest =
    some (match t.dest with | .rowEnd d => .move d (some t.robot) | .garage => .garage (some t.robot)) := by
  obtain ⟨tag, robot, source, dest, origin, step⟩ := t
  cases dest <;> rfl

theorem current_split (current : (b.shuttle u).current = some t.tag) (queue : (b.shuttle u).queue = before ++ t :: after)
    (unique : ∀ x ∈ before ++ after, x.tag ≠ t.tag) : (b.shuttle u).current.bind (b.shuttle u).record = some t := by
  rw [current, Option.bind_some, record_split queue unique]

theorem steppingStatus_fault (record : (b.shuttle u).current.bind (b.shuttle u).record = some t) (fault : st.state = .fault) :
    steppingStatus e u counts st b = (b.faultShuttle u .reported).failTransfer u t .shuttleFault := by
  simp only [steppingStatus, record, if_pos fault]

theorem steppingStatus_running (record : (b.shuttle u).current.bind (b.shuttle u).record = some t)
    (running : t.step = .running y) (sound : st.state ≠ .fault) :
    steppingStatus e u counts st b = if counts && t.matches y st then b.completeStep e u t y else (b, []) := by
  simp only [steppingStatus, record, if_neg sound, running]

/-! ## The next step (R70, R72) -/

/-- The step `go` of the current record `t` of shuttle `u` follows one that has completed: its command is placed and its deadline
armed (R70), and from MOVE_TO_DEST on the robot is in the garage no more (R63). -/
def Block.stepFollows (e : Env) (u : ShuttleId) (t : Transfer) (go : RunStep) (op : LinkOp) (load : Option RobotId)
    (before after : List Transfer) (b : Block) : Block :=
  (((b.modShuttle u fun w =>
      { w with
        mode := go.shuttleMode, pollDue := none, commandSent := false, load := load
        queue := before ++ { t with step := .running go } :: after }).placeLink u op false).arm
    e (.shuttleStep u) e.params.stepTimeout).modRobot t.robot fun w =>
  { w with inGarage := if go = .moveToDest ∨ go = .unloading then false else w.inGarage }

theorem setStep_split {step : TransferStep} (unique : ∀ x ∈ before ++ after, x.tag ≠ t.tag) :
    setStep t.tag step (before ++ t :: after) = before ++ { t with step := step } :: after := by
  have others {l : List Transfer} (h : ∀ x ∈ l, x ∈ before ++ after) :
      l.map (fun z => if z.tag = t.tag then { z with step := step } else z) = l :=
    (List.map_congr_left fun x hx => if_neg (unique x (h x hx))).trans (List.map_id _)
  rw [setStep, List.map_append, List.map_cons, others (by simp +contextual), others (by simp +contextual), if_pos rfl]

theorem startStep_follows (command : t.command go = some op) (queue : (b.shuttle u).queue = before ++ t :: after)
    (unique : ∀ x ∈ before ++ after, x.tag ≠ t.tag) (carries : (b.shuttle u).load = load) :
    b.startStep e u t go = b.stepFollows e u t go op load before after := by
  have shuttle : (b.modShuttle u fun z =>
        { z with
          mode := go.shuttleMode, pollDue := none, commandSent := false, queue := setStep t.tag (.running go) z.queue })
      = b.modShuttle u fun w =>
        { w with
          mode := go.shuttleMode, pollDue := none, commandSent := false, load := load
          queue := before ++ { t with step := .running go } :: after } :=
    Block.modShuttle_congr (by rw [queue, setStep_split unique, carries])
  unfold Block.startStep Block.stepFollows
  dsimp only
  rw [shuttle, command]
  by_cases leaves : go = .moveToDest ∨ go = .unloading
  · simp only [if_pos leaves]
    rfl
  · simp only [if_neg leaves]
    exact (Block.modRobot_same rfl).symm

/-- The load is taken with the step that follows. -/
theorem stepFollows_load (load' : Option RobotId) :
    (b.modShuttle u fun w => { w with load := load' }).stepFollows e u t go op load before after =
      b.stepFollows e u t go op load before after := by
  rw [Block.stepFollows, Block.modShuttle_modShuttle]
  rfl

theorem Block.modRobot_arm (b : Block) (k : RobotId) (g : Robot → Robot) (kind : DeadlineKind) (n : Nat) :
    (b.modRobot k g).arm e kind n = (b.arm e kind n).modRobot k g := rfl

/-- A robot in the garage no more takes its other changes with the step that follows. -/
theorem stepFollows_robot {g h : Robot → Robot} (leaves : go = .moveToDest ∨ go = .unloading)
    (same : ∀ w, { g w with inGarage := false } = { h w with inGarage := false }) :
    (b.modRobot t.robot g).stepFollows e u t go op load before after =
      (b.modRobot t.robot h).stepFollows e u t go op load before after := by
  have outside (g : Robot → Robot) : (b.modRobot t.robot g).stepFollows e u t go op load before after =
      (((b.modShuttle u fun w =>
          { w with
            mode := go.shuttleMode, pollDue := none, commandSent := false, load := load
            queue := before ++ { t with step := .running go } :: after }).placeLink u op false).arm
        e (.shuttleStep u) e.params.stepTimeout).modRobot t.robot fun w => { g w with inGarage := false } := by
    rw [Block.stepFollows, ← Block.modShuttle_modRobot, Block.placeLink_modRobot, Block.modRobot_arm, Block.modRobot_modRobot]
    simp only [if_pos leaves]
  rw [outside, outside, funext same]

/-- LOADING completes: the robot is aboard, its source end is free, and MOVE_TO_DEST follows (R72). -/
theorem boarded_follows {p : RowId} (source : t.source = .rowEnd p) (command : t.command .moveToDest = some op)
    (queue : (b.shuttle u).queue = before ++ t :: after) (unique : ∀ x ∈ before ++ after, x.tag ≠ t.tag) :
    (b.boarded u t).startStep e u t .moveToDest =
      ((b.modRow p fun w => { w with occupant := none }).modRobot t.robot fun w =>
        { w with mode := if w.mode = .faulted then .faulted else .carried, location := .carried u }).stepFollows
      e u t .moveToDest op (some t.robot) before after := by
  have boarded : b.boarded u t = ((b.modRow p fun w => { w with occupant := none }).modRobot t.robot fun w =>
      { w with mode := keepFaulted w .carried, location := .carried u, inGarage := false }).modShuttle u fun w =>
        { w with load := some t.robot } := by
    rw [Block.boarded, source]
    rfl
  have shuttle : (b.boarded u t).shuttle u = { b.shuttle u with load := some t.robot } := by
    rw [boarded, Block.shuttle_modShuttle, if_pos rfl]
    rfl
  rw [startStep_follows command (by rw [shuttle]; exact queue) unique (by rw [shuttle]), boarded, stepFollows_load]
  exact stepFollows_robot (.inl rfl) fun w => rfl

/-! ## The DONE of a transfer (R73) -/

/-- The current transfer of a shuttle is DONE and leaves it IDLE (R73, parts 1 and 2). -/
def Block.shuttleFreed (u : ShuttleId) (load : Option RobotId) (rest : List Transfer) (b : Block) : Block :=
  (b.cancel (.shuttleStep u)).modShuttle u fun w =>
    { w with mode := .idle, commandSent := false, load := load, current := none, queue := rest }

theorem doneParts_rowEnd {r : RowId} {rest : List Transfer} (dest : t.dest = .rowEnd r)
    (left : ((b.shuttle u).queue.filter fun z => z.tag != t.tag) = rest) :
    b.doneParts u t =
      ((b.shuttleFreed u none rest).modRow r fun w => { w with reservation := none, occupant := some t.robot }).modRobot
        t.robot fun w =>
      { w with location := .rowEnd r, transfer := none, mode := if w.mode = .faulted then .faulted else .idle } := by
  subst left
  unfold Block.doneParts
  rw [dest]
  dsimp only
  rw [Block.modShuttle_modShuttle]
  refine congrArg (fun c : Block => (c.modRow r _).modRobot t.robot _) (Block.modShuttle_congr ?_)
  rfl

theorem doneParts_garage {rest : List Transfer} (dest : t.dest = .garage) (carries : (b.shuttle u).load = load)
    (left : ((b.shuttle u).queue.filter fun z => z.tag != t.tag) = rest) :
    b.doneParts u t = (b.shuttleFreed u load rest).modRobot t.robot fun w =>
      { w with
        transfer := none, inGarage := true
        order := if b.weather = .start ∨ b.weather = .calm ∨ b.weather = .watch then .attend else w.order } := by
  subst left carries
  unfold Block.doneParts
  rw [dest]
  exact congrArg (fun c : Block => c.modRobot t.robot _) (Block.modShuttle_congr rfl)

/-- A rule that takes robots in turn, as a cascade takes its hand-ons. -/
theorem runs_inTurn {rule : RobotId → Block → Block → Prop} {task : RobotId → HandOn} {n : Nat}
    (one : ∀ k b c, rule k b c → Runs e hold n due [task k] b due c) {ks : List RobotId} (h : InTurn rule ks b c) :
    Runs e hold (n * ks.length) due (ks.map task) b due c := by
  induction ks generalizing b with
  | nil =>
    obtain rfl : c = b := h
    exact .nil c
  | cons k ks ih =>
    obtain ⟨d, first, rest⟩ := h
    exact ((one k b d first).append (ih rest)).mono (by rw [List.length_cons, Nat.mul_succ]; omega)

/-- The retry of a charge plan that does not wait, or whose robot or top task is another's (R57). -/
theorem chargeRetry_unmade (h : ¬ ((b.robot k).chargeWait = true ∧ (b.robot k).stack.head? = some .charge
      ∧ ∃ p, (b.robot k).IdleAt p)) :
    chargeRetry e k b = (b.modRobot k fun w =>
      { w with chargeWait := w.chargeWait && decide ((b.robot k).stack.head? = some .charge) }, []) := by
  have stands (same : ((b.robot k).chargeWait && decide ((b.robot k).stack.head? = some .charge)) = (b.robot k).chargeWait) :
      (b.modRobot k fun w =>
        { w with chargeWait := w.chargeWait && decide ((b.robot k).stack.head? = some .charge) }) = b :=
    Block.modRobot_same (by rw [same])
  unfold chargeRetry
  dsimp only
  by_cases waits : (b.robot k).chargeWait = true
  · rw [if_pos waits]
    split
    · next below stack =>
      have elsewhere : (b.robot k).idleAt = none :=
        Robot.idleAt_none.mpr fun p at' => h ⟨waits, by rw [stack]; rfl, p, at'⟩
      rw [stands (by simp [stack]), elsewhere]
      rfl
    · next other =>
      have top : ¬ (b.robot k).stack.head? = some .charge := fun top =>
        let ⟨below, stack⟩ := List.head?_eq_some_iff.mp top
        other below stack
      simp only [top, decide_false, Bool.and_false]
  · rw [if_neg waits, stands (by simp [waits])]

/-- A cascade retries the charge plan of one robot (R57). -/
theorem runs_chargeRetry (h : ChargeRetried e hold k b c) : Runs e hold 10 due [.chargeRetry k] b due c := by
  refine Runs.handled (n := 9) rfl ?_
  by_cases made : (b.robot k).chargeWait = true ∧ (b.robot k).stack.head? = some .charge ∧ ∃ p, (b.robot k).IdleAt p
  · obtain ⟨waits, top, p, at'⟩ := made
    obtain ⟨below, stack⟩ := List.head?_eq_some_iff.mp top
    have retry : chargeRetry e k b = chargePlan e k b := by
      simp only [chargeRetry, waits, stack, Robot.idleAt_iff.mpr at']
      rfl
    rw [handle, retry]
    exact runs_chargePlan at' (h.1 ⟨waits, top⟩ p at')
  · rw [handle, chargeRetry_unmade made, h.2 made]
    exact (Runs.nil _).mono (by omega)

/-- A cascade makes a pass of the park plan (R168). -/
theorem runs_parkPass (h : PassMade e hold b c) : Runs e hold (10 * 24) due (parkPass b) b due c := by
  cases storm : b.storm with
  | false =>
    rw [parkPass_calm storm, h.1 storm]
    exact (Runs.nil b).mono (by omega)
  | true =>
    have pass := h.2 storm
    have tasks : parkPass b =
        ((List.finRange 24).filter fun k => (b.robot k).mode ≠ .absent ∧ RobotTask.park ∈ (b.robot k).stack).map .planRobot := by
      rw [parkPass, if_pos storm]
      refine congrArg (List.map HandOn.planRobot) (List.filter_congr fun k _ => Bool.eq_iff_iff.mpr ?_)
      simp [Robot.enrolled, Robot.holdsPark]
    rw [tasks]
    refine (runs_inTurn (rule := Planned e hold) (fun k b c => runs_planRobot) pass).mono (Nat.mul_le_mul_left 10 ?_)
    exact (List.length_filter_le _ _).trans (List.length_finRange (n := 24)).le

/-- An event that holds offers to a shuttle while its hand-ons run, then makes its pass, and at last offers the shuttle work
(R73). -/
theorem finish_held {n m l : Nat} {ts : List HandOn} {h : Block} (run : Runs e (some u) n (.plans []) ts b due c)
    (pass : Runs e (some u) m .made (parkPass c) c .made d) (offer : Runs e none l .made [.offer u] d .made h)
    (fuel : n + m + l < 1000) :
    Handed.finish e (b, .holdOffers u :: (ts ++ [.pass, .releaseOffers, .offer u])) = some h := by
  obtain ⟨i, hi, run⟩ := run
  obtain ⟨j, hj, pass⟩ := pass
  obtain ⟨o, ho, offer⟩ := offer
  obtain ⟨z, hz⟩ : ∃ z, cascadeFuel = z + 1 + o + 1 + j + 1 + i + 1 := ⟨99996 - i - j - o, by unfold cascadeFuel; omega⟩
  calc cascade e cascadeFuel none (.plans []) (.holdOffers u :: (ts ++ [.pass, .releaseOffers, .offer u])) b
    _ = cascade e (z + 1 + o + 1 + j + 1 + i) (some u) (.plans []) (ts ++ [.pass, .releaseOffers, .offer u]) b := by
        rw [hz]
        rfl
    _ = cascade e (z + 1 + o + 1 + j) (some u) .made (parkPass c ++ [.releaseOffers, .offer u]) c := run _ _
    _ = cascade e (z + 1 + o) none .made [.offer u] d := pass _ _
    _ = some h := offer (z + 1) []

/-- What follows the DONE of a transfer: its robot comes to rest at a row end, the charge plans that wait are retried, the pass is
made, and the shuttle is offered work (R73). -/
theorem finish_done {ts : List HandOn} {g h : Block} (rests : Runs e (some u) 16 (.plans []) ts b due c)
    (retries : InTurn (ChargeRetried e (some u)) (List.finRange 24) c d) (pass : PassMade e (some u) d g)
    (offers : Offers e none u g h) :
    Handed.finish e (b, [.holdOffers u] ++ ts ++ allRobots.map .chargeRetry ++ [.pass, .releaseOffers, .offer u]) = some h := by
  have retried := runs_inTurn (due := due) (rule := ChargeRetried e (some u)) (fun k b c => runs_chargeRetry) retries
  obtain ⟨n, short, -, offer⟩ := runs_offers (due := .made) offers
  rw [List.append_assoc, List.append_assoc, List.cons_append, List.nil_append, ← List.append_assoc]
  refine finish_held (rests.append retried) (runs_parkPass pass) offer ?_
  rw [List.length_finRange]
  omega

/-! ## The statuses of a running step -/

/-- Settles O40: `steppingStatus_running` for each step, with `finish_done` for the DONE of a transfer, and `steppingStatus_fault`
for the reported fault. -/
theorem statusCompletesTheStep : Obligations.StatusCompletesTheStep := by
  unfold Obligations.StatusCompletesTheStep
  constructor
  · intro data u st s before t after y shows counted mode ready current queue unique running e k b at' run next leaves handedOn
    obtain ⟨x, flies⟩ := shows.flies
    have shuttle : b.shuttle u = _ := shown_shuttle s u st
    have queue' : (b.shuttle u).queue = before ++ t :: after := by rw [shuttle]; exact queue
    have carries : (b.shuttle u).load = (s.blk.shuttle u).load := by rw [shuttle]
    have record := current_split (b := b) (by rw [shuttle]; exact current) queue' unique
    have completes {c : Block} (target : t.target y = some st.place) (load : st.load = t.expectedLoad y)
        (finish : Handed.finish e (b.completeStep e u t y) = some c) : run c := by
      refine ((completes_shown shows flies).2 mode).trans (event_finishes ?_)
      rw [steppingStatus_running record running (by rw [ready]; nofun), counted x flies,
        Transfer.matches_iff.mpr ⟨ready, target, load⟩]
      exact finish
    have place {r : RowId} (h : at' r) : some (Dest.rowEnd r) = some st.place := congrArg some (Status.place_rowEnd.mpr h).symm
    have handsOn {ts : List HandOn} {due : Due} {c c' : Block} (target : t.target y = some st.place)
        (load : st.load = t.expectedLoad y) (parts : b.completeStep e u t y = (c,
          [.holdOffers u] ++ ts ++ allRobots.map .chargeRetry ++ [.pass, .releaseOffers, .offer u]))
        (rests : Runs e (some u) 16 (.plans []) ts c due c') : handedOn c' := fun d g h retries pass offers =>
      completes target load (by rw [parts]; exact finish_done rests retries pass offers)
    have left := filter_tag_ne queue' unique
    refine ⟨?_, ?_, ?_, ?_, ?_⟩
    · rintro p rfl source here load
      refine completes ((Transfer.target_source (.inl rfl) source).trans (place here)) load ?_
      rw [Block.completeStep, startStep_follows (Transfer.command_loading source) queue' unique carries]
      exact finish_nil _ _
    · rintro p rfl source here load
      refine completes ((Transfer.target_source (.inr rfl) source).trans (place here)) load ?_
      rw [Block.completeStep, boarded_follows source t.command_moveToDest queue' unique]
      exact finish_nil _ _
    · rintro d rfl dest here load
      refine completes ((congrArg some dest).trans (place here)) load ?_
      have step : b.completeStep e u t .moveToDest = (b.startStep e u t .unloading, []) := by rw [Block.completeStep, dest]
      rw [step, startStep_follows (Transfer.command_unloading dest) queue' unique carries]
      exact finish_nil _ _
    · rintro d c rfl dest here load rests
      refine handsOn (ts := [.rest k]) ((Transfer.target_unloading dest).trans (place here)) load ?_ (runs_rest rests)
      rw [Block.completeStep, Block.transferDone, doneParts_rowEnd dest left, dest]
      rfl
    · rintro rfl dest here load
      refine handsOn (ts := []) ((congrArg some dest).trans (congrArg some (Status.place_garage.mpr here).symm)) load ?_
        ((Runs.nil _).mono (by omega))
      have step : b.completeStep e u t .moveToDest = b.transferDone u t := by rw [Block.completeStep, dest]
      rw [step, Block.transferDone, doneParts_garage dest carries left, dest]
      rfl
  · intro data u st s before t after y shows mode current queue running unique source aboard target counted met
    obtain ⟨x, flies⟩ := shows.flies
    have shuttle : (s.shown u st).shuttle u = _ := shown_shuttle s u st
    have current' : ((s.shown u st).shuttle u).current = some t.tag := by rw [shuttle]; exact current
    have queue' : ((s.shown u st).shuttle u).queue = before ++ t :: after := by rw [shuttle]; exact queue
    have record := current_split current' queue' unique
    have status := (completes_shown shows flies).2 mode
    refine ⟨fun fault origin => ?_, fun sound unmet => ?_⟩
    · refine status.trans (event_finishes ?_)
      rw [steppingStatus_fault record fault]
      exact finish_faulted_fails .reported current' queue' unique running origin source
    · have stays : ¬ (x.txn.counts && t.matches y st) = true := fun completes => by
        obtain ⟨counts, fits⟩ := (Bool.and_eq_true _ _).mp completes
        obtain ⟨ready, place, load⟩ := Transfer.matches_iff.mp fits
        refine unmet ⟨ready, fun z hz => ?_, reaches_of_target source place, load.trans (t.expectedLoad_eq y)⟩
        rw [Option.some.inj (hz.symm.trans flies)]
        exact counts
      refine status.trans (event_finishes ?_)
      rw [steppingStatus_running record running sound, if_neg stays]
      exact finish_nil _ _

end Sys2Proof.Machine
end

section
/-! PROOF. The contention fault that the CONTEND pin latches (R88 to R90), the bytes of a STATUS and their validity test (R82, R83,
R187), and what a completion hands back (R71, R74, R86). -/

namespace Sys2Proof.Machine

open Sys2Proof

variable {s : State} {data : StatusBytes} {e : Env} {b : Block} {u : ShuttleId} {st : Status} {x : Flight}

/-! ## The contention fault (R88 to R90) -/

theorem Transfer.doubt_eq (t : Transfer) :
    t.doubt = { t with step := match t.step with | .running y => .inDoubt y | other => other } := by
  obtain ⟨tag, robot, source, dest, origin, step⟩ := t
  cases step <;> rfl

/-- The latch makes every shuttle LOCAL that is not OFFLINE, and puts each dispatched record IN_DOUBT (R89, R90). -/
theorem Shuttle.contention_eq (x : Shuttle) :
    let off := x.mode = .offline
    x.contention = { x with
      mode := if off then x.mode else .localUnknown
      position := if off then x.position else none
      pollDue := if off then x.pollDue else none
      cause := if off then x.cause else none
      commandSent := if off then x.commandSent else false
      queue := x.queue.map fun t =>
        { t with step := match t.step with | .running y => .inDoubt y | other => other } } := by
  unfold Shuttle.contention
  rw [funext Transfer.doubt_eq]
  by_cases off : x.mode = .offline
  · simp only [if_pos off]
  · simp only [if_neg off]

/-- The latch removes every SHUTTLE_STEP entry (R90). -/
theorem latch_deadlines (b : Block) : b.latch.deadlines = b.deadlines.filter fun d => ∀ u, d.kind ≠ .shuttleStep u := by
  refine List.filter_congr fun d _ => ?_
  cases d.kind <;> simp

theorem latch_latched (b : Block) : Latched b.link.lastServed b b.latch := by
  refine ⟨?_, ⟨rfl, fun u => ?_, rfl, rfl⟩, fun u => ?_⟩
  · rw [← latch_deadlines]
    rfl
  · simp [Block.latch]
  · exact (latch_shuttle b u).trans (Shuttle.contention_eq _)

/-- Settles O35: where the level alone changes the next state is read off, and a rise on an ENABLED link is `latch_latched`. -/
theorem contentionLatches : Obligations.ContentionLatches := by
  unfold Obligations.ContentionLatches
  have rises (s : State) : exec .contendAsserted s = execContendAsserted s := rfl
  refine fun s => ⟨rfl, fun still => ?_, fun up low enabled => ⟨s.blk.latch, ?_, latch_latched s.blk⟩⟩
  · rw [rises, execContendAsserted]
    by_cases high : s.contend = true
    · rw [if_pos high, ← high]
    · rw [if_neg high, if_pos (by simp [still.resolve_left high])]
  · rw [rises, execContendAsserted, if_neg (by simp [low]), if_neg (by simp [up, enabled])]

/-! ## The bytes of a STATUS (R82, R83, R187) -/

/-- A byte is what its bits make, most significant bit first. -/
theorem ofBoolListBE_bits (v : Byte) : BitVec.ofBoolListBE [v.getLsbD 7, v.getLsbD 6, v.getLsbD 5, v.getLsbD 4, v.getLsbD 3,
    v.getLsbD 2, v.getLsbD 1, v.getLsbD 0] = v := by
  refine BitVec.eq_of_getLsbD_eq fun i (hi : i < 8) => ?_
  have bit : i = 0 ∨ i = 1 ∨ i = 2 ∨ i = 3 ∨ i = 4 ∨ i = 5 ∨ i = 6 ∨ i = 7 := by omega
  rcases bit with rfl | rfl | rfl | rfl | rfl | rfl | rfl | rfl <;> simp [BitVec.ofBoolListBE, BitVec.getElem_cons]

/-- The whole bytes of the bits of bytes are those bytes. -/
theorem wholeBytes_byteBits (bytes : List Byte) : wholeBytes (bytes.flatMap byteBits) = bytes := by
  induction bytes with
  | nil => rfl
  | cons v rest ih => exact congrArg₂ List.cons (ofBoolListBE_bits v) ih

theorem stateArg_iff {v : Byte} {state : StatusState} : stateArg v = some state ↔
    (v = 1 ∧ state = .ready) ∨ (v = 2 ∧ state = .working) ∨ (v = 3 ∧ state = .fault) := by
  unfold stateArg
  split
  · next one => simp [one, eq_comm]
  · split
    · next two => simp [two, eq_comm]
    · split
      · next three => simp [three, eq_comm]
      · simp_all

theorem robotArg_iff {v : Byte} {k : RobotId} : robotArg v = some k ↔ v.toNat = k.val := by
  refine ⟨robotArg_some, fun same => ?_⟩
  have inside : v.toNat < 24 := by omega
  exact (dif_pos inside).trans (congrArg some (Fin.ext same))

theorem loadArg_iff {v : Byte} {load : Option RobotId} :
    loadArg v = some load ↔ (v = 0xFF ∧ load = none) ∨ ∃ k : RobotId, v.toNat = k.val ∧ load = some k := by
  unfold loadArg
  by_cases top : v = 0xFF
  · have outside (k : RobotId) : v.toNat ≠ k.val := by
      have : v.toNat = 255 := by rw [top]; rfl
      omega
    rw [if_pos top, Option.some.injEq]
    constructor
    · rintro rfl
      exact .inl ⟨top, rfl⟩
    · rintro (⟨-, rfl⟩ | ⟨k, same, -⟩)
      · rfl
      · exact absurd same (outside k)
  · simp only [if_neg top, Option.map_eq_some_iff, robotArg_iff]
    constructor
    · rintro ⟨k, same, rfl⟩
      exact .inr ⟨k, same, rfl⟩
    · rintro (⟨top', -⟩ | ⟨k, same, rfl⟩)
      · exact absurd top' top
      · exact ⟨k, same, rfl⟩

/-- The validity test of R83, byte by byte. -/
theorem readStatus_iff {x : Shuttle} : readStatus x data = some st ↔
    stateArg data.state = some st.state ∧ st.row = rowArg data.position ∧ st.garage = data.flags.getLsbD 0
      ∧ st.fault = data.fault ∧ loadArg data.load = some st.load ∧ (st.garage = true ∨ x.serves st.row = true) := by
  obtain ⟨state, row, garage, load, fault⟩ := st
  unfold readStatus
  cases stateArg data.state with
  | none => simp
  | some state' =>
    cases loadArg data.load with
    | none => simp
    | some load' =>
      simp only [Option.ite_none_right_eq_some, Bool.or_eq_true, Option.some.injEq, Status.mk.injEq]
      constructor
      · rintro ⟨place, rfl, rfl, rfl, rfl, rfl⟩
        exact ⟨rfl, rfl, rfl, rfl, rfl, place⟩
      · rintro ⟨rfl, rfl, rfl, rfl, rfl, place⟩
        exact ⟨place, rfl, rfl, rfl, rfl, rfl⟩

/-! ## Completions (R71, R74, R86) -/

theorem event_ends (s : State) (c : Block) : s.event (c, []) = .next { s with blk := c } := event_finishes (finish_nil _ c)

theorem execTransactionCompletion_eq (up : s.inReset = false) :
    exec (.transactionCompletion data) s = s.event (completeTransaction s.env data s.blk) := by
  show awake s _ = _
  rw [awake, up]
  rfl

/-- The block with the transaction in flight taken off the link. -/
def Block.landed (b : Block) : Block := { b with link := { b.link with inFlight := none } }

@[simp] theorem Block.landed_shuttle (b : Block) (u : ShuttleId) : b.landed.shuttle u = b.shuttle u := rfl

/-- A transaction that comes back is discarded, or is taken as a STATUS or as a command. -/
theorem completeTransaction_eq (flies : b.link.inFlight = some x) : completeTransaction e data b =
    if x.discard then (b.landed, [])
    else if x.txn.op = .status then statusDone e x.shuttle x.txn.counts data b.landed
    else (commandDone e x.shuttle b.landed, []) := by
  unfold completeTransaction
  rw [flies]
  rfl

theorem commandDone_live (live : ¬ (b.shuttle u).Down) : commandDone e u b =
    b.modShuttle u fun y => { y with pollDue := some e.params.pollInterval, commandSent := true } := if_neg live

theorem commandDone_dead (dead : (b.shuttle u).Down) : commandDone e u b = b := if_pos dead

/-- A STATUS that is not valid sets the poll due alone. -/
theorem statusDone_invalid {counts : Bool} (invalid : readStatus (b.shuttle u) data = none) : statusDone e u counts data b =
    (if (b.shuttle u).mode = .faulted ∨ (b.shuttle u).mode = .offline then b
    else b.modShuttle u fun y => { y with pollDue := some e.params.pollInterval }, []) := by
  unfold statusDone
  rw [invalid]
  dsimp only
  split <;> rfl

/-- A valid STATUS of a shuttle that is FAULTED or OFFLINE leaves its fault code. -/
theorem statusDone_dead {counts : Bool} (valid : readStatus (b.shuttle u) data = some st) (dead : (b.shuttle u).Down) :
    statusDone e u counts data b = (b.modShuttle u fun y => { y with lastFault := st.fault }, []) := by
  unfold statusDone
  rw [valid]
  exact if_pos dead

/-- A valid STATUS of an IDLE shuttle is taken by its rule (R74). -/
theorem statusDone_idle {counts : Bool} (valid : readStatus (s.blk.shuttle u) data = some st)
    (idle : (s.blk.shuttle u).mode = .idle) :
    statusDone s.env u counts data s.blk.landed = idleStatus u st (s.shown u st) := by
  unfold statusDone
  simp only [Block.landed_shuttle, valid, idle]
  rw [← shown_eq]
  rfl

theorem idleStatus_eq : idleStatus u st b =
    (if st.state = .fault then b.shuttleFaulted u .reported
    else if st.load = (b.shuttle u).load then b
    else b.shuttleFaulted u .loadUnknown, []) := by
  unfold idleStatus
  split
  · rfl
  · split <;> simp_all [faultShuttle_eq]

/-- Settles O37: the bytes by `readStatus_iff` and `wholeBytes_byteBits`, and each completion by what `completeTransaction_eq` hands back. -/
theorem completionIsHandedBack : Obligations.CompletionIsHandedBack := by
  unfold Obligations.CompletionIsHandedBack
  refine ⟨fun x d st => ?_, fun d => ?_, fun data s up => ⟨fun idle => ?_, fun x flies => ?_⟩⟩
  · rw [readStatus_iff, stateArg_iff, loadArg_iff, Shuttle.serves_iff, Fin.ext_iff]
    rfl
  · rw [statusOfBits, wholeBytes_byteBits]
  · rw [execTransactionCompletion_eq up, completeTransaction, idle]
    exact event_ends s s.blk
  · have ends {c : Block} (back : completeTransaction s.env data s.blk = (c, [])) :
        exec (.transactionCompletion data) s = .next { s with blk := c } := by
      rw [execTransactionCompletion_eq up, back, event_ends]
    have command (kept : x.discard = false) (op : x.txn.op ≠ .status) :
        completeTransaction s.env data s.blk = (commandDone s.env x.shuttle s.blk.landed, []) := by
      rw [completeTransaction_eq flies, if_neg (by simp [kept]), if_neg op]
    have status (kept : x.discard = false) (op : x.txn.op = .status) :
        completeTransaction s.env data s.blk = statusDone s.env x.shuttle x.txn.counts data s.blk.landed := by
      rw [completeTransaction_eq flies, if_neg (by simp [kept]), if_pos op]
    refine ⟨fun discarded => ends ?_, fun kept op live => ends ?_, fun kept op dead => ends ?_, fun kept op invalid => ends ?_,
      fun st kept op valid => ⟨fun dead => ends ?_, fun idle => ends ?_⟩⟩
    · exact (completeTransaction_eq flies).trans (if_pos discarded)
    · exact (command kept op).trans (congrArg (·, []) (commandDone_live (b := s.blk.landed) live))
    · exact (command kept op).trans (congrArg (·, []) (commandDone_dead (b := s.blk.landed) dead))
    · exact (status kept op).trans (statusDone_invalid (b := s.blk.landed) invalid)
    · exact (status kept op).trans (statusDone_dead (b := s.blk.landed) valid dead)
    · rw [status kept op, statusDone_idle valid idle, idleStatus_eq, shown_shuttle]

end Sys2Proof.Machine
end

section
/-! PROOF. The reconciliation of a transfer IN_DOUBT (R93 to R95): how its record fails and its robot is placed. -/

namespace Sys2Proof.Machine

open Sys2Proof

variable {e : Env} {b c : Block} {u : ShuttleId} {k : RobotId} {st : Status} {t : Transfer} {y : RunStep} {d : RowId}
  {rest : List Transfer}

/-! ## The record fails LINK (R75, R93) -/

theorem doubted_split {x : Shuttle} {before after : List Transfer} (current : x.current = some t.tag)
    (queue : x.queue = before ++ t :: after) (unique : ∀ z ∈ before ++ after, z.tag ≠ t.tag) (doubt : t.step = .inDoubt y) :
    x.doubted = some (t, y) := by
  unfold Shuttle.doubted
  simp only [current, Option.bind_some, record_split queue unique, doubt]

/-- Part 3 of R75 for a transfer IN_DOUBT: its robot stands where it stood (R93). -/
theorem Transfer.leaveRobot_doubt (doubt : t.step = .inDoubt y) (u : ShuttleId) (x : Robot) :
    t.leaveRobot u x = { x with transfer := none } := by
  unfold Transfer.leaveRobot
  rw [doubt]

theorem failParts_doubt (doubt : t.step = .inDoubt y) (current : (b.shuttle u).current = some t.tag)
    (left : ((b.shuttle u).queue.filter fun z => z.tag != t.tag) = rest) :
    b.failParts u t .link = b.doubtFailed u t rest := by
  have own : ((b.shuttle u).current == some t.tag) = true := beq_iff_eq.mpr current
  have shuttle : (b.modShuttle u fun x =>
        { x with queue := x.queue.filter fun z => z.tag != t.tag, current := if true = true then none else x.current })
      = b.modShuttle u fun x => { x with current := none, queue := rest } :=
    Block.modShuttle_congr (by rw [left]; rfl)
  unfold Block.failParts Block.removeRecord
  dsimp only
  rw [own, shuttle, Block.setOutcome, Block.modRobot_modRobot, funext (Transfer.leaveRobot_doubt doubt u)]
  rfl

theorem doubtFailed_shuttle (b : Block) (u : ShuttleId) (t : Transfer) (rest : List Transfer) :
    (b.doubtFailed u t rest).shuttle u = { b.shuttle u with current := none, queue := rest } := by
  rw [Block.doubtFailed, Block.modRobot_shuttle, destReleased_shuttle, Block.shuttle_modShuttle, if_pos rfl, Block.cancel_shuttle]

theorem doubtFailed_robot (b : Block) (u : ShuttleId) (t : Transfer) (rest : List Transfer) (j : RobotId) :
    (b.doubtFailed u t rest).robot j =
      if t.robot = j then { b.robot t.robot with transfer := none, outcome := .transferFailed .link } else b.robot j := by
  simp only [Block.doubtFailed, Block.robot_modRobot, destReleased_robot, Block.modShuttle_robot, Block.cancel_robot]

theorem doubtFailed_weather (b : Block) (u : ShuttleId) (t : Transfer) (rest : List Transfer) :
    (b.doubtFailed u t rest).weather = b.weather := by
  rw [Block.doubtFailed, destReleased_frame]
  rfl

/-! ## The robot aboard (R93) -/

/-- The robot found aboard is the shuttle's load. -/
def Block.aboard (u : ShuttleId) (t : Transfer) (garage : Bool) (b : Block) : Block :=
  (b.foundAboard u t garage).modShuttle u fun x => { x with load := some t.robot }

theorem aboard_shuttle (b : Block) (u : ShuttleId) (t : Transfer) (garage : Bool) :
    (b.aboard u t garage).shuttle u = { b.shuttle u with load := some t.robot } := by
  rw [Block.aboard, Block.shuttle_modShuttle, if_pos rfl, Block.foundAboard]
  cases t.source <;> rfl

theorem aboard_location (b : Block) (u : ShuttleId) (t : Transfer) (garage : Bool) :
    ((b.aboard u t garage).robot t.robot).location = .carried u := by
  rw [Block.aboard, Block.modShuttle_robot, Block.foundAboard, Block.robot_modRobot, if_pos rfl]

theorem aboard_weather (b : Block) (u : ShuttleId) (t : Transfer) (garage : Bool) :
    (b.aboard u t garage).weather = b.weather := by
  rw [Block.aboard, Block.foundAboard]
  cases t.source <;> rfl

/-- The nearest cradle that `nearestRow` answers is the one of `NearestCradle`. -/
theorem nearestRow_iff {p c : RowId} : nearestRow p (cradleCandidates e b u) = some c ↔ b.NearestCradle e u p c := by
  refine ⟨fun near => ?_, nearestRow_nearest⟩
  obtain ⟨mem, least⟩ := (nearestRow_spec (cradleCandidates_sorted e b u)).2 c near
  refine ⟨mem_cradleCandidates.mp mem, fun d cradle => ?_⟩
  have before := least d (mem_cradleCandidates.mpr cradle)
  rwa [rowDistance_eq, rowDistance_eq] at before

/-- The end may take its robot back (R93). -/
theorem RowState.takesBack_iff {x : RowState} : (x.endFree && x.locked.isNone && !x.reservedByOther k) = true ↔
    x.occupant = none ∧ x.reservation = none ∧ x.holder = none ∧ x.locked = none
      ∧ (x.reservedBy = none ∨ x.reservedBy = some k) := by
  rw [Bool.and_eq_true, Bool.and_eq_true, RowState.endFree_iff, Option.isNone_iff_eq_none, Bool.not_eq_true',
    RowState.reservedByOther_eq_false]
  tauto

/-- The former source of a transfer, where its robot may be returned to it (R93). -/
abbrev Block.Former (t : Transfer) (b : Block) (r : RowId) : Prop :=
  t.source = .rowEnd r ∧ (b.row r).occupant = none ∧ (b.row r).reservation = none ∧ (b.row r).holder = none
    ∧ (b.row r).locked = none ∧ ((b.row r).reservedBy = none ∨ (b.row r).reservedBy = some t.robot)

/-- A RECOVERY record takes its robot to the former source, or else to the nearest cradle (R93). -/
theorem recoveryDest_iff : recoveryDest e b u t st = some d ↔ b.RecoverTo e u t st.row d := by
  unfold recoveryDest
  cases source : t.source with
  | carried v => simp [source, Block.RecoverTo, nearestRow_iff]
  | rowEnd r =>
    by_cases back : ((b.row r).endFree && (b.row r).locked.isNone && !(b.row r).reservedByOther t.robot) = true
    · have former := RowState.takesBack_iff.mp back
      simp only [if_pos back, Option.some.injEq]
      constructor
      · rintro rfl
        exact .inl ⟨source, former⟩
      · rintro (⟨source', -⟩ | ⟨away, -⟩)
        · exact Source.rowEnd.inj (source.symm.trans source')
        · exact absurd ⟨source, former⟩ (away r)
    · have away (r' : RowId) : ¬ b.Former t r' := by
        rintro ⟨source', former⟩
        obtain rfl := Source.rowEnd.inj (source.symm.trans source')
        exact back (RowState.takesBack_iff.mpr former)
      simp only [if_neg back, nearestRow_iff]
      exact ⟨fun near => .inr ⟨away, near⟩, fun h => h.elim (fun former => absurd former (away d)) And.right⟩

theorem placeRecord_recovery {z : Transfer} {queue : List Transfer} (origin : z.origin = .recovery)
    (queued : ∀ x ∈ queue, x.step = .queued) : placeRecord z queue = z :: queue := by
  unfold placeRecord
  rw [origin]
  cases queue with
  | nil => rfl
  | cons x rest => exact if_pos (by simp [queued x])

/-- A robot that is not to stay in the garage for a storm is ordered ATTEND there (R93). -/
def Block.garaged (u : ShuttleId) (t : Transfer) (garage : Bool) (b : Block) : Block :=
  if t.origin.parkPriority && (b.storm || b.weather == .recover) then b.aboard u t garage
  else (b.aboard u t garage).setOrder t.robot .attend

theorem garaged_frame (b : Block) (u : ShuttleId) (t : Transfer) (garage : Bool) :
    ((b.garaged u t garage).robot t.robot).location = .carried u ∧ (b.garaged u t garage).weather = b.weather
      ∧ ∀ v, (b.garaged u t garage).shuttle v = (b.aboard u t garage).shuttle v := by
  have place := aboard_location b u t garage
  have weather := aboard_weather b u t garage
  unfold Block.garaged
  split
  · exact ⟨place, weather, fun _ => rfl⟩
  · exact ⟨by simp [Block.setOrder, place], weather, fun _ => rfl⟩

/-- The loaded case: in the garage the robot takes it, and otherwise a RECOVERY record is made where one may be (R93). -/
theorem reconcileLoaded_eq (e : Env) (u : ShuttleId) (t : Transfer) (st : Status) (b : Block) :
    let a := b.aboard u t st.garage
    let g := b.garaged u t st.garage
    b.reconcileLoaded e u t st =
      if st.garage then (g, ((g.shuttle u).otherGarage t.robot).elim [] fun z => [.failRecord u z.tag .link])
      else ((recoveryDest e a u t st).bind fun d => a.freeTag.map fun tag => a.placeRecovery u t.robot d tag).elim
        (a.setOrder t.robot .attend, []) (·, []) := by
  intro a g
  unfold Block.reconcileLoaded
  extract_lets k b1 b2
  have same : b2 = a := by
    simp only [b2, b1, a, Block.aboard, Block.foundAboard]
    cases t.source <;> rfl
  clear_value b2
  subst same
  split
  · refine congrArg (Prod.mk g) ?_
    show (match (g.shuttle u).otherGarage t.robot with | some z => [HandOn.failRecord u z.tag .link] | none => []) = _
    cases (g.shuttle u).otherGarage t.robot <;> rfl
  · cases recoveryDest e a u t st
    · rfl
    · cases a.freeTag <;> rfl

theorem placeRecovery_first {g : Tag} (queued : ∀ x ∈ (b.shuttle u).queue, x.step = .queued) :
    b.placeRecovery u k d g = b.recoveryMade u k g d := by
  unfold Block.placeRecovery Block.recoveryMade
  exact Block.modShuttle_congr (congrArg (fun q => { b.shuttle u with queue := q }) (placeRecord_recovery rfl queued))

/-! ## The robot not aboard (R94) -/

/-- The robot is put down at a place off the shuttle, FAULTED or IDLE. -/
def Block.putDown (k : RobotId) (l : Location) (o : Order) (b : Block) : Block :=
  b.modRobot k fun w =>
    { w with mode := if w.mode = .faulted then .faulted else .idle, location := l, inGarage := false, order := o }

/-- The reported end takes the robot: it is present, and free or kept for its transfer (R94). -/
abbrev Block.TakesIn (e : Env) (t : Transfer) (st : Status) (b : Block) : Prop :=
  st.garage = false ∧ (e.row st.row).present = true
    ∧ ((b.row st.row).reservation = some t.tag
      ∨ ((b.row st.row).occupant = none ∧ (b.row st.row).reservation = none ∧ (b.row st.row).holder = none))

theorem takesIn_iff : (!st.garage && (e.row st.row).present
    && ((b.row st.row).endFree || (b.row st.row).reservation == some t.tag)) = true ↔ b.TakesIn e t st := by
  rw [Bool.and_eq_true, Bool.and_eq_true, Bool.not_eq_true', Bool.or_eq_true, RowState.endFree_iff, beq_iff_eq, and_assoc,
    or_comm]

/-- Before its LOADING completed the robot stands where it waited (R94). -/
theorem reconcileEmpty_waiting (step : y = .moveToSource ∨ y = .loading)
    (mode : (c.robot t.robot).mode = .waitTransfer ∨ (c.robot t.robot).mode = .faulted) :
    reconcileEmpty e t y st b c =
      c.modRobot t.robot fun w => { w with mode := if w.mode = .faulted then .faulted else .idle } := by
  have same : reconcileEmpty e t y st b c =
      c.modRobot t.robot fun z => { z with mode := if z.mode = .waitTransfer then .idle else z.mode } := by
    obtain rfl | rfl := step <;> rfl
  rw [same]
  refine Block.modRobot_congr ?_
  obtain mode | mode := mode <;> simp [mode]

/-- From MOVE_TO_DEST on the robot stands at the reported end (R94). -/
theorem reconcileEmpty_landed (step : y = .moveToDest ∨ y = .unloading) (takes : b.TakesIn e t st) :
    reconcileEmpty e t y st b c =
      (c.modRow st.row fun w => { w with occupant := some t.robot }).putDown t.robot (.rowEnd st.row) (c.robot t.robot).order := by
  obtain rfl | rfl := step <;> exact (if_pos (takesIn_iff.mpr takes)).trans (Block.modRobot_congr rfl)

/-- Where the reported end does not take it, its place is UNKNOWN (R94). -/
theorem reconcileEmpty_lost (step : y = .moveToDest ∨ y = .unloading) (refused : ¬ b.TakesIn e t st) :
    reconcileEmpty e t y st b c = c.putDown t.robot .unknown .attend := by
  obtain rfl | rfl := step <;> exact if_neg (takesIn_iff.not.mpr refused)

end Sys2Proof.Machine
end

section
/-! PROOF. What follows a reconciliation within its event: the checks of R78, what R95 hands on, and the offer of work. -/

namespace Sys2Proof.Machine

open Sys2Proof

variable {e : Env} {hold : Option ShuttleId} {due due' : Due} {b c d z : Block} {u : ShuttleId} {k : RobotId} {st : Status}
  {t : Transfer} {y : RunStep} {p : RowId} {load : Option RobotId} {why : FailReason}

/-! ## The checks (R78) -/

/-- The shuttle after the checks of R78 that leave no robot elsewhere: FAULTED where it reports so, and otherwise IDLE with its load. -/
def Block.checked (u : ShuttleId) (st : Status) (load : Option RobotId) (b : Block) : Block :=
  if st.state = .fault then b.shuttleFaulted u .reported else b.shuttleSettled u load

theorem checked_robot (b : Block) (j : RobotId) : (b.checked u st load).robot j = b.robot j := by
  unfold Block.checked
  split <;> rfl

theorem checked_weather (b : Block) : (b.checked u st load).weather = b.weather := by
  unfold Block.checked
  split <;> rfl

theorem checked_modRobot (b : Block) (j : RobotId) (g : Robot → Robot) :
    (b.modRobot j g).checked u st load = (b.checked u st load).modRobot j g := by
  unfold Block.checked
  split <;> rfl

theorem checked_shuttle (b : Block) : ∃ mode cause pollDue load', (b.checked u st load).shuttle u =
    { b.shuttle u with mode := mode, cause := cause, pollDue := pollDue, load := load' } := by
  unfold Block.checked
  split
  · exact ⟨_, _, _, _, shuttleFaulted_shuttle b u _⟩
  · exact ⟨_, _, _, _, shuttleSettled_shuttle b u load⟩

theorem Block.modShuttle_swap (b : Block) {g h : Shuttle → Shuttle} (swap : ∀ x, h (g x) = g (h x)) :
    (b.modShuttle u g).modShuttle u h = (b.modShuttle u h).modShuttle u g := by
  rw [Block.modShuttle_modShuttle, Block.modShuttle_modShuttle, funext swap]

theorem checked_queue (b : Block) (q : List Transfer) : (b.modShuttle u fun x => { x with queue := q }).checked u st load =
    (b.checked u st load).modShuttle u fun x => { x with queue := q } := by
  unfold Block.checked
  split
  · exact Block.modShuttle_swap { b with link := { b.link with queue := b.link.queue.set u none } }
      (g := fun x => { x with queue := q })
      (h := fun x => { x with mode := .faulted, cause := some .reported, pollDue := none }) fun _ => rfl
  · exact Block.modShuttle_swap b fun _ => rfl

theorem firstStatusChecks_aboard (loaded : st.load = some k) (aboard : (b.robot k).location = .carried u) :
    firstStatusChecks u st b = (b.checked u st (some k), []) := by
  unfold Block.checked
  split
  · next fault => exact firstStatusChecks_fault fault
  · next sound => exact firstStatusChecks_carried sound loaded aboard

theorem firstStatusChecks_clear (unloaded : st.load = none) (clear : ∀ j, (b.robot j).location ≠ .carried u) :
    firstStatusChecks u st b = (b.checked u st none, []) := by
  unfold Block.checked
  split
  · next fault => exact firstStatusChecks_fault fault
  · next sound => exact firstStatusChecks_empty sound unloaded clear

/-- The offer of work after the checks: none to a FAULTED shuttle, and the one of R69 to an IDLE one. -/
theorem offers_checked (current : (c.shuttle u).current = none) :
    (st.state = .fault → Offers e none u (c.checked u st load) (c.shuttleFaulted u .reported))
    ∧ (st.state ≠ .fault → ∀ d, (c.shuttleSettled u load).Offered e u d → Offers e none u (c.checked u st load) d) := by
  refine ⟨fun fault => ?_, fun sound d taken => ?_⟩
  · rw [Block.checked, if_pos fault]
    refine .none _ (.inr (occupied_faulted ?_))
    rw [shuttleFaulted_shuttle]
  · rw [Block.checked, if_neg sound]
    exact .taken _ d nofun (shuttleSettled_free load current) taken

/-! ## What R95 hands on -/

/-- A CHARGE transfer that failed leaves its robot waiting for another plan (R75, part 5; R95). -/
def Block.chargeWaits (t : Transfer) (b : Block) : Block :=
  if t.origin = .charge then b.modRobot t.robot fun x => { x with chargeWait := true } else b

theorem checked_chargeWaits (b : Block) : (b.chargeWaits t).checked u st load = (b.checked u st load).chargeWaits t := by
  unfold Block.chargeWaits
  split
  · exact checked_modRobot b _ _
  · rfl

theorem chargeWaits_shuttle (b : Block) (v : ShuttleId) : (b.chargeWaits t).shuttle v = b.shuttle v := by
  unfold Block.chargeWaits
  split <;> rfl

theorem chargeWaits_weather (b : Block) : (b.chargeWaits t).weather = b.weather := by
  unfold Block.chargeWaits
  split <;> rfl

/-- A PARK or RECOVERY transfer that failed wants the pass of the park plan (R95). -/
def Transfer.wantsPass (t : Transfer) : List HandOn := if t.origin = .park ∨ t.origin = .recovery then [.wantPass] else []

theorem reconcileRound_other (origin : t.origin ≠ .round) : b.reconcileRound t = (b, []) := by
  unfold Block.reconcileRound
  cases from' : t.origin with
  | round => exact absurd from' origin
  | fleet | charge | park | recovery => rfl

theorem reconcileHandOn_adrift (origin : t.origin ≠ .round)
    (adrift : (b.robot t.robot).location = .carried u ∨ (b.robot t.robot).location = .unknown) :
    b.reconcileHandOn t = (b.chargeWaits t, t.wantsPass) := by
  have nowhere : (b.robot t.robot).idleAt = none := Robot.idleAt_none.mpr fun p at' => by
    obtain h | h := adrift <;> cases h.symm.trans at'.2
  unfold Block.reconcileHandOn
  simp only [reconcileRound_other origin, nowhere, Block.chargeWaits, Transfer.wantsPass]
  obtain place | place := adrift <;> cases from' : t.origin <;> simp_all

theorem reconcileHandOn_rests (origin : t.origin ≠ .round) (at' : (b.robot t.robot).IdleAt p) :
    b.reconcileHandOn t = (b, [.rest t.robot]) := by
  unfold Block.reconcileHandOn
  simp only [reconcileRound_other origin, Robot.idleAt_iff.mpr at']
  rfl

theorem reconcileHandOn_faulted (origin : t.origin ≠ .round) (faulted : (b.robot t.robot).mode = .faulted)
    (at' : (b.robot t.robot).location = .rowEnd p) : b.reconcileHandOn t = (b, []) := by
  have nowhere : (b.robot t.robot).idleAt = none := Robot.idleAt_none.mpr fun p idle => by cases faulted.symm.trans idle.1
  unfold Block.reconcileHandOn
  simp only [reconcileRound_other origin, nowhere, at']

/-! ## The end of the event -/

theorem storm_congr (weather : c.weather = b.weather) : c.storm = b.storm := by unfold Block.storm; rw [weather]

theorem Offers.storm (h : Offers e hold u b c) : c.storm = b.storm := storm_congr (StaysTasked.offers (k := 0) h).weather

/-- A shuttle that has been offered work takes no more. -/
theorem Offers.again (h : Offers e hold u b c) (open' : hold = Option.none) : Offers e hold u c c := by
  induction h with
  | none b passed => exact .none b passed
  | taken b c _ free offered =>
    subst open'
    exact offered.again free
  | locked b c before t after d _ _ _ _ _ _ _ _ _ _ _ ih => exact ih

/-- Outside a storm what an event owes the park plan changes nothing (R168). -/
theorem Runs.finish_calm {n : Nat} {ts : List HandOn} (run : Runs e none n (.plans []) ts b due c)
    (owed : due = .plans [] ∨ ((due = .pass ∨ due = .plans [k]) ∧ c.storm = false)) (fuel : n < 900) :
    Handed.finish e (b, ts) = some c := by
  obtain rfl | ⟨rfl | rfl, calm⟩ := owed
  · exact run.finish (by omega)
  · obtain ⟨i, hi, run⟩ := run
    obtain ⟨m, hm⟩ : ∃ m, cascadeFuel = m + 2 + i := ⟨99998 - i, by unfold cascadeFuel; omega⟩
    have run := run (m + 2) []
    rw [List.append_nil, ← hm] at run
    refine run.trans ?_
    show cascade e (m + 1) none .made (parkPass c) c = some c
    rw [parkPass_calm calm]
    rfl
  · refine run.finish_plan (m := 1) (.single rfl ?_) (by omega)
    simp [handle, planRobot, calm]

/-- The park plan's part in the event of an IN_DOUBT transfer whose robot has no place of its own. -/
theorem runs_wantsPass (t : Transfer) (b : Block) : Runs e hold 1 (.plans []) t.wantsPass b
    (if t.origin = .park ∨ t.origin = .recovery then .pass else .plans []) b := by
  unfold Transfer.wantsPass
  split
  · exact ⟨1, le_rfl, fun _ _ => rfl⟩
  · exact (Runs.nil b).mono (by omega)

theorem finish_adrift {h : List HandOn} (fails : Runs e none 10 (.plans []) h b (.plans []) c) (offers : Offers e none u c d)
    (calm : t.origin = .park ∨ t.origin = .recovery → d.storm = false) :
    Handed.finish e (b, h ++ t.wantsPass ++ [.offer u]) = some d := by
  obtain ⟨n, short, -, offer⟩ := runs_offers offers
  refine ((fails.append (runs_wantsPass t c)).append offer).finish_calm (k := t.robot) ?_ (by omega)
  split
  · next pass => exact .inr ⟨.inl rfl, calm pass⟩
  · exact .inl rfl

theorem finish_rests (rests : b.RestsIdle k) (offers : Offers e none u b d) :
    Handed.finish e (b, [.rest k, .offer u]) = some d := by
  obtain ⟨n, short, -, offer⟩ := runs_offers offers
  refine ((runs_rest (comesToRest_idle rests)).append offer).finish_calm (k := k) ?_ (by omega)
  unfold Due.given
  split
  · next plan =>
    obtain empty | ⟨-, -, calm⟩ := rests.2
    · obtain ⟨top, -⟩ := plan
      simp [empty] at top
    · exact .inr ⟨.inr rfl, offers.storm.trans calm⟩
  · exact .inl rfl

/-! ## The garage (R93) -/

theorem queuedFailed_garage {x : Transfer} {rest : List Transfer} (dest : x.dest = .garage) :
    ∃ g, ∀ b : Block, b.queuedFailed u x why rest = (b.modShuttle u fun y => { y with queue := rest }).modRobot x.robot g := by
  unfold Block.queuedFailed Block.destReleased
  rw [dest]
  exact ⟨_, fun _ => rfl⟩

theorem Block.modRobot_comm (b : Block) {j : RobotId} (other : j ≠ k) (g h : Robot → Robot) :
    (b.modRobot j g).modRobot k h = (b.modRobot k h).modRobot j g := by
  unfold Block.modRobot
  dsimp only
  rw [modifyAt_comm _ other]

/-- A garage that is taken before the checks and the hand-on is taken after them, too. -/
theorem garageTaken_checked (garage : b.GarageTaken u t.robot why c) :
    ((b.checked u st load).chargeWaits t).GarageTaken u t.robot why ((c.checked u st load).chargeWaits t) := by
  obtain ⟨mode, cause, pollDue, load', shuttle⟩ := checked_shuttle (u := u) (st := st) (load := load) b
  rw [Block.GarageTaken, chargeWaits_shuttle, shuttle]
  obtain ⟨none', rfl⟩ | ⟨before, x, after, queue, other, origin, first, unique, rfl⟩ := garage
  · exact .inl ⟨none', rfl⟩
  · refine .inr ⟨before, x, after, queue, other, origin, first, unique, ?_⟩
    obtain ⟨g, fails⟩ := queuedFailed_garage (u := u) (why := why) (rest := before ++ after) other.2.1
    rw [fails, fails, checked_modRobot, checked_queue]
    unfold Block.chargeWaits
    split
    · exact Block.modRobot_comm _ other.2.2 g _
    · rfl

/-- The garage is taken within the event: the failure of the record bound there offers the shuttle the work that it may take. -/
theorem runs_garage (garage : b.GarageTaken u k why c) (current : (b.shuttle u).current = none) (offers : Offers e none u c d) :
    ∃ z, Runs e none 10 due (((b.shuttle u).otherGarage k).elim [] fun x => [.failRecord u x.tag why]) b due z
      ∧ Offers e none u z d := by
  obtain ⟨none', rfl⟩ | ⟨before, x, after, queue, other, origin, first, unique, rfl⟩ := garage
  · rw [otherGarage_none none']
    exact ⟨c, (Runs.nil c).mono (by omega), offers⟩
  · rw [otherGarage_first queue other first]
    obtain ⟨n, short, -, run⟩ := runs_offers (due := due) offers
    refine ⟨d, Runs.mono (n := n + 1) (.handled rfl ?_) (by omega), offers.again rfl⟩
    rw [handle, failQueued_fleet queue unique other.1 (by simp [current]) origin]
    exact run

end Sys2Proof.Machine
end

section
/-! PROOF. The first valid status of a LOCAL shuttle whose transfer is IN_DOUBT (R93 to R95), from its completion to the end of its
event. -/

namespace Sys2Proof.Machine

open Sys2Proof

variable {e : Env} {b c d z : Block} {u : ShuttleId} {k : RobotId} {st : Status} {t : Transfer} {y : RunStep} {why : FailReason}

/-- With a transfer IN_DOUBT the first status reconciles it, makes the checks of R78, and hands on what R95 says. -/
theorem firstStatus_doubted {h h' : List HandOn} (doubted : (b.shuttle u).doubted = some (t, y))
    (reconciled : reconcile e u t y st b = (c, h)) (checks : firstStatusChecks u st c = (d, []))
    (handsOn : d.reconcileHandOn t = (z, h')) : firstStatus e u st b = (z, h ++ h' ++ [.offer u]) := by
  simp only [firstStatus, doubted, reconciled, checks, handsOn, List.append_nil]

theorem garageTaken_frame (garage : b.GarageTaken u k why c) :
    c.weather = b.weather ∧ (c.shuttle u).current = (b.shuttle u).current := by
  obtain ⟨-, rfl⟩ | ⟨before, x, after, -, -, -, -, -, rfl⟩ := garage
  · exact ⟨rfl, rfl⟩
  · exact ⟨(StaysTasked.queuedFailed (k := k)).weather, by rw [queuedFailed_shuttle]⟩

/-- What gives a resting robot nothing is its tasks, its deferred charge and the weather. -/
theorem restsIdle_congr (rests : b.RestsIdle k) (stack : (c.robot k).stack = (b.robot k).stack)
    (deferred : (c.robot k).chargeDeferred = (b.robot k).chargeDeferred) (weather : c.weather = b.weather) : c.RestsIdle k := by
  unfold Block.RestsIdle Robot.round at *
  rwa [stack, deferred, storm_congr weather]

theorem putDown_robot (b : Block) (k j : RobotId) (l : Location) (o : Order) : (b.putDown k l o).robot j =
    if k = j then { b.robot k with
      mode := if (b.robot k).mode = .faulted then .faulted else .idle, location := l, inGarage := false, order := o }
    else b.robot j := Block.robot_modRobot b k _ j

/-- In a storm and in RECOVER a PARK or RECOVERY robot found in the garage stays there without an order (R93). -/
theorem parked_iff : (t.origin.parkPriority && (b.storm || b.weather == .recover)) = true ↔
    (t.origin = .park ∨ t.origin = .recovery) ∧ (b.weather = .park ∨ b.weather = .stow ∨ b.weather = .recover) := by
  rw [Bool.and_eq_true, Bool.or_eq_true, Block.storm_iff, beq_iff_eq, or_assoc]
  cases t.origin <;> simp [Origin.parkPriority]

/-- The event ends with the checks of R78 made over `c`: the shuttle FAULTED where it reports so, and otherwise IDLE with its load and
offered work. -/
abbrev State.ChecksEnd (s : State) (data : StatusBytes) (u : ShuttleId) (st : Status) (load : Option RobotId) (c : Block) : Prop :=
  (st.state = .fault → exec (.transactionCompletion data) s = .next { s with blk := c.shuttleFaulted u .reported })
    ∧ (st.state ≠ .fault → ∀ d, (c.shuttleSettled u load).Offered s.env u d →
        exec (.transactionCompletion data) s = .next { s with blk := d })

/-- The first valid status of a LOCAL shuttle comes, whose transfer `t` is IN_DOUBT at step `y`, with the other records `rest`
QUEUED. -/
structure InDoubt (s : State) (data : StatusBytes) (u : ShuttleId) (st : Status) (t : Transfer) (y : RunStep)
    (rest : List Transfer) : Prop where
  shows : s.Shows data u st
  mode : (s.blk.shuttle u).mode = .localUnknown
  current : (s.blk.shuttle u).current = some t.tag
  split : ∃ before after, (s.blk.shuttle u).queue = before ++ t :: after ∧ rest = before ++ after
  doubt : t.step = .inDoubt y
  others : ∀ x ∈ rest, x.tag ≠ t.tag ∧ x.step = .queued
  origin : t.origin ≠ .round
  calm : t.origin = .park ∨ t.origin = .recovery → s.blk.storm = false

namespace InDoubt

variable {s : State} {data : StatusBytes} {rest : List Transfer} {load : Option RobotId} {p : RowId} {c' w : Block}
  {h h' : List HandOn}

/-- The block in which the record has failed LINK. -/
abbrev failed (_ : InDoubt s data u st t y rest) : Block := (s.shown u st).doubtFailed u t rest

theorem failed_shuttle (i : InDoubt s data u st t y rest) : i.failed.shuttle u =
    { (s.shown u st).shuttle u with current := none, queue := rest } := doubtFailed_shuttle _ u t rest

theorem failed_current (i : InDoubt s data u st t y rest) : (i.failed.shuttle u).current = none := by rw [i.failed_shuttle]

theorem failed_weather (i : InDoubt s data u st t y rest) : i.failed.weather = s.blk.weather := doubtFailed_weather _ u t rest

theorem failed_robot (i : InDoubt s data u st t y rest) : i.failed.robot t.robot =
    { s.blk.robot t.robot with transfer := none, outcome := .transferFailed .link } :=
  (doubtFailed_robot _ u t rest t.robot).trans (if_pos rfl)

theorem failed_other (i : InDoubt s data u st t y rest) {j : RobotId} (other : j ≠ t.robot) : i.failed.robot j = s.blk.robot j :=
  (doubtFailed_robot _ u t rest j).trans (if_neg other.symm)

theorem reconciles (i : InDoubt s data u st t y rest) : reconcile s.env u t y st (s.shown u st) =
    if st.load = some t.robot then i.failed.reconcileLoaded s.env u t st
    else (reconcileEmpty s.env t y st (s.shown u st) i.failed, []) := by
  obtain ⟨before, after, queue, rfl⟩ := i.split
  have shuttle : (s.shown u st).shuttle u = _ := shown_shuttle s u st
  have left := filter_tag_ne (queue := ((s.shown u st).shuttle u).queue) (by rw [shuttle]; exact queue) fun x hx => (i.others x hx).1
  unfold reconcile
  rw [failParts_doubt i.doubt (by rw [shuttle]; exact i.current) left]

/-- The event of the status, from the reconciliation over the checks and the hand-on of R95 to its end. -/
theorem event (i : InDoubt s data u st t y rest) (reconciled : reconcile s.env u t y st (s.shown u st) = (c, h))
    (checks : firstStatusChecks u st c = (d, [])) (handsOn : d.reconcileHandOn t = (z, h'))
    (finish : Handed.finish s.env (z, h ++ h' ++ [.offer u]) = some w) :
    exec (.transactionCompletion data) s = .next { s with blk := w } := by
  obtain ⟨x, flies⟩ := i.shows.flies
  obtain ⟨before, after, queue, rfl⟩ := i.split
  have doubted : ((s.shown u st).shuttle u).doubted = some (t, y) := by
    rw [shown_shuttle]
    exact doubted_split i.current queue (fun x hx => (i.others x hx).1) i.doubt
  refine ((completes_shown i.shows flies).1 i.mode).trans (event_finishes ?_)
  rw [firstStatus_doubted doubted reconciled checks handsOn]
  exact finish

/-- The robot is left on the shuttle or at no known place, and what the checks and the hand-on change comes over `c'`. -/
theorem adrift (i : InDoubt s data u st t y rest) (reconciled : reconcile s.env u t y st (s.shown u st) = (c, h))
    (checks : firstStatusChecks u st c = (c.checked u st load, []))
    (place : (c.robot t.robot).location = .carried u ∨ (c.robot t.robot).location = .unknown)
    (weather : c'.weather = s.blk.weather) (free : (c'.shuttle u).current = none)
    (fails : ∀ d, Offers s.env none u ((c'.checked u st load).chargeWaits t) d →
      ∃ z, Runs s.env none 10 (.plans []) h ((c.checked u st load).chargeWaits t) (.plans []) z ∧ Offers s.env none u z d) :
    s.ChecksEnd data u st load (c'.chargeWaits t) := by
  have ends (d : Block) (offers : Offers s.env none u ((c'.chargeWaits t).checked u st load) d) :
      exec (.transactionCompletion data) s = .next { s with blk := d } := by
    have storm : d.storm = s.blk.storm := offers.storm.trans
      (storm_congr ((checked_weather _).trans ((chargeWaits_weather c').trans weather)))
    rw [checked_chargeWaits] at offers
    obtain ⟨z, run, offers⟩ := fails d offers
    exact i.event reconciled checks (reconcileHandOn_adrift i.origin (by rwa [checked_robot]))
      (finish_adrift run offers fun pass => storm.trans (i.calm pass))
  have offers := offers_checked (e := s.env) (c := c'.chargeWaits t) (st := st) (load := load)
    (by rw [chargeWaits_shuttle]; exact free)
  exact ⟨fun fault => ends _ (offers.1 fault), fun sound d taken => ends d (offers.2 sound d taken)⟩

/-- The robot is left so, and no other record fails. -/
theorem adrift_alone (i : InDoubt s data u st t y rest) (reconciled : reconcile s.env u t y st (s.shown u st) = (c, []))
    (checks : firstStatusChecks u st c = (c.checked u st load, []))
    (place : (c.robot t.robot).location = .carried u ∨ (c.robot t.robot).location = .unknown)
    (weather : c.weather = s.blk.weather) (free : (c.shuttle u).current = none) :
    s.ChecksEnd data u st load (c.chargeWaits t) :=
  i.adrift reconciled checks place weather free fun _ offers => ⟨_, (Runs.nil _).mono (by omega), offers⟩

/-! ## The robot aboard -/

/-- The block in which the robot is found aboard. -/
abbrev aboard (i : InDoubt s data u st t y rest) : Block := i.failed.aboard u t st.garage

theorem aboard_weather (i : InDoubt s data u st t y rest) : i.aboard.weather = s.blk.weather :=
  (Machine.aboard_weather i.failed u t st.garage).trans i.failed_weather

theorem aboard_current (i : InDoubt s data u st t y rest) : (i.aboard.shuttle u).current = none := by
  rw [aboard_shuttle, i.failed_shuttle]

theorem aboard_queued (i : InDoubt s data u st t y rest) : ∀ x ∈ (i.aboard.shuttle u).queue, x.step = .queued := by
  rw [aboard_shuttle, i.failed_shuttle]
  exact fun x hx => (i.others x hx).2

/-- Out of the garage a RECOVERY record takes the robot back (R93). -/
theorem recovers (i : InDoubt s data u st t y rest) (loaded : st.load = some t.robot) (out : st.garage = false) {tag : Tag}
    (dest : i.aboard.RecoverTo s.env u t st.row p) (lowest : i.aboard.LowestFree tag) :
    s.ChecksEnd data u st (some t.robot) ((i.aboard.recoveryMade u t.robot tag p).chargeWaits t) := by
  have reconciled := i.reconciles
  rw [if_pos loaded, reconcileLoaded_eq, if_neg (by simp [out]), recoveryDest_iff.mpr dest, Option.bind_some,
    freeTag_lowest lowest, Option.map_some, Option.elim_some, placeRecovery_first i.aboard_queued] at reconciled
  have place : ((i.aboard.recoveryMade u t.robot tag p).robot t.robot).location = .carried u := by
    simp [Block.recoveryMade, aboard_location]
  exact i.adrift_alone reconciled (firstStatusChecks_aboard loaded place) (.inl place) i.aboard_weather
    (by simp [Block.recoveryMade, i.aboard_current])

/-- Out of the garage, with nowhere to go, the robot is ordered ATTEND (R93). -/
theorem attends (i : InDoubt s data u st t y rest) (loaded : st.load = some t.robot) (out : st.garage = false)
    (nowhere : ∀ d, ¬ i.aboard.RecoverTo s.env u t st.row d) :
    s.ChecksEnd data u st (some t.robot) ((i.aboard.setOrder t.robot .attend).chargeWaits t) := by
  have none' : recoveryDest s.env i.aboard u t st = none :=
    Option.eq_none_iff_forall_ne_some.mpr fun d dest => nowhere d (recoveryDest_iff.mp dest)
  have reconciled := i.reconciles
  rw [if_pos loaded, reconcileLoaded_eq, if_neg (by simp [out]), none', Option.bind_none, Option.elim_none] at reconciled
  have place : ((i.aboard.setOrder t.robot .attend).robot t.robot).location = .carried u := by
    simp [Block.setOrder, aboard_location]
  exact i.adrift_alone reconciled (firstStatusChecks_aboard loaded place) (.inl place) i.aboard_weather i.aboard_current

/-- In the garage the robot takes it from the record bound there (R93). -/
theorem takesGarage (i : InDoubt s data u st t y rest) (loaded : st.load = some t.robot) (garage : st.garage = true)
    (taken : (i.failed.garaged u t st.garage).GarageTaken u t.robot .link c) :
    s.ChecksEnd data u st (some t.robot) (c.chargeWaits t) := by
  have reconciled := i.reconciles
  rw [if_pos loaded, reconcileLoaded_eq, if_pos garage] at reconciled
  obtain ⟨place, weather, shuttle⟩ := garaged_frame i.failed u t st.garage
  have free := (congrArg Shuttle.current (shuttle u)).trans i.aboard_current
  obtain ⟨weather', free'⟩ := garageTaken_frame taken
  refine i.adrift reconciled (firstStatusChecks_aboard loaded place) (.inl place)
    (weather'.trans (weather.trans i.failed_weather)) (free'.trans free) fun d offers => ?_
  obtain ⟨_, _, _, _, shuttle'⟩ := checked_shuttle (u := u) (st := st) (load := some t.robot) (i.failed.garaged u t st.garage)
  have after := runs_garage (due := .plans []) (garageTaken_checked taken) (by rw [chargeWaits_shuttle, shuttle']; exact free) offers
  rwa [chargeWaits_shuttle, shuttle'] at after

/-! ## The robot not aboard -/

/-- The robot stands at a row end, FAULTED or IDLE, and is given nothing (R94, R95). -/
theorem ashore (i : InDoubt s data u st t y rest) (unloaded : st.load = none)
    (reconciled : reconcileEmpty s.env t y st (s.shown u st) i.failed = c)
    (clear : ∀ j, j ≠ t.robot → (c.robot j).location ≠ .carried u) (place : (c.robot t.robot).location = .rowEnd p)
    (mode : (c.robot t.robot).mode = if (s.blk.robot t.robot).mode = .faulted then .faulted else .idle)
    (stack : (c.robot t.robot).stack = (s.blk.robot t.robot).stack)
    (deferred : (c.robot t.robot).chargeDeferred = (s.blk.robot t.robot).chargeDeferred)
    (weather : c.weather = s.blk.weather) (free : (c.shuttle u).current = none)
    (rests : (s.blk.robot t.robot).mode = .faulted ∨ s.blk.RestsIdle t.robot) : s.ChecksEnd data u st none c := by
  have reconciles := i.reconciles
  rw [if_neg (by simp [unloaded]), reconciled] at reconciles
  have checks : firstStatusChecks u st c = (c.checked u st none, []) := firstStatusChecks_clear unloaded fun j => by
    by_cases own : j = t.robot
    · rw [own, place]
      nofun
    · exact clear j own
  have ends (d : Block) (offers : Offers s.env none u (c.checked u st none) d) :
      exec (.transactionCompletion data) s = .next { s with blk := d } := by
    by_cases faulted : (s.blk.robot t.robot).mode = .faulted
    · rw [if_pos faulted] at mode
      obtain ⟨n, short, -, run⟩ := runs_offers (due := .plans []) offers
      exact i.event reconciles checks (reconcileHandOn_faulted i.origin (by rwa [checked_robot]) (by rwa [checked_robot]))
        (run.finish (by omega))
    · rw [if_neg faulted] at mode
      have idle := restsIdle_congr (c := c.checked u st none) (rests.resolve_left faulted) (by rwa [checked_robot])
        (by rwa [checked_robot]) ((checked_weather c).trans weather)
      exact i.event reconciles checks (reconcileHandOn_rests i.origin (by rw [checked_robot]; exact ⟨mode, place⟩))
        (finish_rests idle offers)
  have offers := offers_checked (e := s.env) (c := c) (st := st) (load := none) free
  exact ⟨fun fault => ends _ (offers.1 fault), fun sound d taken => ends d (offers.2 sound d taken)⟩

/-- Before its LOADING completed the robot stands at its source (R94). -/
theorem waiting (i : InDoubt s data u st t y rest) (unloaded : st.load = none)
    (clear : ∀ j, j ≠ t.robot → (s.blk.robot j).location ≠ .carried u)
    (rests : (s.blk.robot t.robot).mode = .faulted ∨ s.blk.RestsIdle t.robot) (step : y = .moveToSource ∨ y = .loading)
    (place : (s.blk.robot t.robot).location = .rowEnd p)
    (mode : (s.blk.robot t.robot).mode = .waitTransfer ∨ (s.blk.robot t.robot).mode = .faulted) :
    s.ChecksEnd data u st none
      (i.failed.modRobot t.robot fun w => { w with mode := if w.mode = .faulted then .faulted else .idle }) := by
  have own := i.failed_robot
  refine i.ashore (p := p) unloaded (reconcileEmpty_waiting step (by rwa [own])) (fun j other => ?_) ?_ ?_ ?_ ?_ i.failed_weather
    i.failed_current rests
  · rw [Block.robot_modRobot, if_neg other.symm, i.failed_other other]
    exact clear j other
  all_goals rw [Block.robot_modRobot, if_pos rfl, own]
  exact place

/-- From MOVE_TO_DEST on the robot stands at the reported end, where that takes it (R94). -/
theorem landed (i : InDoubt s data u st t y rest) (unloaded : st.load = none)
    (clear : ∀ j, j ≠ t.robot → (s.blk.robot j).location ≠ .carried u)
    (rests : (s.blk.robot t.robot).mode = .faulted ∨ s.blk.RestsIdle t.robot) (step : y = .moveToDest ∨ y = .unloading)
    (takes : s.blk.TakesIn s.env t st) :
    s.ChecksEnd data u st none ((i.failed.modRow st.row fun w => { w with occupant := some t.robot }).putDown t.robot
      (.rowEnd st.row) (s.blk.robot t.robot).order) := by
  have own := i.failed_robot
  refine i.ashore (p := st.row) unloaded ((reconcileEmpty_landed step takes).trans (by rw [own])) (fun j other => ?_) ?_ ?_ ?_ ?_
    i.failed_weather i.failed_current rests
  · rw [putDown_robot, if_neg other.symm, Block.modRow_robot, i.failed_other other]
    exact clear j other
  all_goals rw [putDown_robot, if_pos rfl, Block.modRow_robot, own]

/-- Where the reported end does not take it, the robot's place is UNKNOWN (R94). -/
theorem lost (i : InDoubt s data u st t y rest) (unloaded : st.load = none)
    (clear : ∀ j, j ≠ t.robot → (s.blk.robot j).location ≠ .carried u) (step : y = .moveToDest ∨ y = .unloading)
    (refused : ¬ s.blk.TakesIn s.env t st) :
    s.ChecksEnd data u st none ((i.failed.putDown t.robot .unknown .attend).chargeWaits t) := by
  have reconciles := i.reconciles
  rw [if_neg (by simp [unloaded]), reconcileEmpty_lost (b := s.shown u st) step refused] at reconciles
  have place : ((i.failed.putDown t.robot .unknown .attend).robot t.robot).location = .unknown := by
    rw [putDown_robot, if_pos rfl]
  refine i.adrift_alone reconciles (firstStatusChecks_clear unloaded fun j => ?_) (.inr place) i.failed_weather i.failed_current
  by_cases own : j = t.robot
  · rw [own, place]
    nofun
  · rw [putDown_robot, if_neg (Ne.symm own), i.failed_other own]
    exact clear j own

end InDoubt

/-- Settles O39: `InDoubt` holds the hypotheses, with a lemma for each place at which the robot is found. -/
theorem reconciliationPlacesTheRobot : Obligations.ReconciliationPlacesTheRobot := by
  unfold Obligations.ReconciliationPlacesTheRobot
  intro data u st s before t after y shows mode current queue doubt others origin calm k e f waits attend ends
  have i : InDoubt s data u st t y (before ++ after) :=
    ⟨shows, mode, current, ⟨before, after, queue, rfl⟩, doubt, others, origin, calm⟩
  refine ⟨fun loaded => ?_, fun unloaded clear rests => ?_⟩
  · intro a
    refine ⟨fun out => ⟨fun d tag dest lowest => i.recovers loaded out dest lowest, fun nowhere => i.attends loaded out nowhere⟩,
      fun garage => ?_⟩
    intro parked c taken
    refine i.takesGarage loaded garage ?_
    rw [Block.garaged, storm_congr i.failed_weather, i.failed_weather, if_congr parked_iff rfl rfl]
    exact taken
  · intro z atEnd set
    exact ⟨fun step ⟨p, place⟩ mode => i.waiting unloaded clear rests step place mode,
      fun step takes => i.landed unloaded clear rests step takes, fun step refused => i.lost unloaded clear step refused⟩

end Sys2Proof.Machine
end

section
/-! PROOF. The marks, classes and resume notices of the rows (R36, R96): which changes of a row record they survive, and that every
rule of the block keeps them. -/

namespace Sys2Proof.Machine

open Sys2Proof

variable {e : Env} {a b c : Block} {r : RowId} {k : RobotId} {s : ShuttleId}

/-! ## Changes of one row record -/

namespace RowState.MarksAgree

variable {x : RowState}

/-- A row in no TRACKING state has no resume notice (R36). -/
theorem silent (h : x.MarksAgree) (ht : x.tracker ≠ .tracking) : x.resumeWanted = false :=
  Bool.eq_false_iff.mpr fun hw => ht (h.2 hw)

/-- A row in urgency map 0 may carry any mark. -/
theorem of_cls_zero (hc : x.cls = 0) (hn : x.resumeWanted = true → x.tracker = .tracking) : x.MarksAgree := ⟨fun _ => hc, hn⟩

/-- A tracker state that is not FAULTED bars no row. -/
theorem retrack (h : x.MarksAgree) {t : Tracker} {w : Bool} (unfaulted : t ≠ .faulted) (notice : w = true → t = .tracking) :
    ({ x with tracker := t, resumeWanted := w } : RowState).MarksAgree := by
  refine ⟨fun hb => h.1 ?_, notice⟩
  obtain hl | hs | hf | hn := hb
  · exact .inl hl
  · exact .inr (.inl hs)
  · exact absurd hf unfaulted
  · exact .inr (.inr (.inr hn))

/-- A row without a notice takes any tracker state but FAULTED. -/
theorem retrack_silent (h : x.MarksAgree) {t : Tracker} (unfaulted : t ≠ .faulted) (was : x.tracker ≠ .tracking) :
    ({ x with tracker := t } : RowState).MarksAgree :=
  h.retrack unfaulted fun hw => absurd (h.2 hw) was

/-- A mark or a flag that is taken away bars no row. -/
theorem unbar (h : x.MarksAgree) {l : Option LockCause} {m n : Bool} (locked : l.isSome = true → x.locked.isSome = true)
    (stranded : m = true → x.stranded = true) (noted : n = true → x.faultNoted = true) :
    ({ x with locked := l, stranded := m, faultNoted := n } : RowState).MarksAgree :=
  ⟨fun hb => h.1 (hb.imp locked (.imp stranded (.imp id noted))), h.2⟩

/-- The class set anew agrees with the marks (R97). -/
theorem classed (p : Params) (d : RowData) (present : Bool) (hn : x.resumeWanted = true → x.tracker = .tracking) :
    ({ x with cls := if present then classTest p d x else 0 } : RowState).MarksAgree := by
  refine ⟨fun hb => ?_, hn⟩
  have barred : x.barred = true := by simpa [RowState.barred, or_assoc] using hb
  simp [classTest, barred]

theorem toReturn (h : x.MarksAgree) (w : Weather) : (x.toReturn w).MarksAgree := by
  unfold RowState.toReturn
  split
  · exact of_cls_zero rfl (by simp)
  · split <;> exact h.retrack (by simp) (by simp)

theorem toRelease (h : x.MarksAgree) (braced : Bool) : (x.toRelease braced).MarksAgree := by
  unfold RowState.toRelease
  split
  · split
    · exact h.retrack (by simp) (by simp)
    · exact h
  · next ht =>
    split
    · exact h.retrack_silent (by simp) (by simp [ht])
    · exact h
  · next ht =>
    split
    · exact h.retrack_silent (by simp) (by simp [ht])
    · exact h
  all_goals exact h

theorem toUnstow (h : x.MarksAgree) : x.toUnstow.MarksAgree := by
  unfold RowState.toUnstow
  split
  · next ht => exact h.retrack_silent (by simp) (by simp [ht])
  · exact h

theorem toResume (h : x.MarksAgree) : x.toResume.MarksAgree := by
  unfold RowState.toResume
  split
  · exact h.retrack (by simp) (by simp)
  · exact h

theorem toHold (h : x.MarksAgree) : x.toHold.MarksAgree := by
  unfold RowState.toHold
  split
  · next ht => exact h.retrack_silent (by simp) (by simp [ht])
  · exact h

theorem strand (h : x.MarksAgree) : x.strand.MarksAgree := of_cls_zero rfl h.2

theorem restore (h : x.MarksAgree) (w : Weather) : (x.restore w).MarksAgree := by
  have unlocked : ({ x with locked := none } : RowState).MarksAgree := h.unbar (by simp) id id
  unfold RowState.restore
  dsimp only
  split
  · exact unlocked.toReturn w
  · exact unlocked

theorem lateConfirm (h : x.MarksAgree) : x.lateConfirm.MarksAgree := by
  unfold RowState.lateConfirm
  split
  · next ht => exact ⟨h.1, fun _ => ht⟩
  · exact h

theorem stow (h : x.MarksAgree) (w : Weather) (was : x.tracker = .stowReleased) : (x.stow w).MarksAgree := by
  have stowed : ({ x with tracker := .stowed } : RowState).MarksAgree := h.retrack_silent (by simp) (by simp [was])
  unfold RowState.stow
  dsimp only
  split
  · exact stowed.toUnstow
  · exact stowed

theorem unstow (h : x.MarksAgree) (was : x.tracker = .unstowWanted) : x.unstow.MarksAgree :=
  h.retrack_silent (by split <;> simp) (by simp [was])

theorem repaired (h : x.MarksAgree) (storm : Bool) (was : x.tracker = .faulted) : (x.repaired storm).MarksAgree := by
  have cleared : ({ x with faultNoted := false } : RowState).MarksAgree := h.unbar id id (by simp)
  exact cleared.retrack_silent (t := if storm then .stowReleased else .tracking) (by cases storm <;> simp) (by simp [was])

theorem vacate (h : x.MarksAgree) (w : Weather) (k : RobotId) : (x.vacate w k).MarksAgree := by
  have left : ({ x with holder := none, occupant := some k, overstay := false, stranded := false } : RowState).MarksAgree :=
    h.unbar id (by simp) id
  unfold RowState.vacate RowState.exited
  split
  · exact left.toReturn w
  · split
    · exact of_cls_zero rfl (by simp)
    · split
      · exact left.toResume
      · exact left

theorem fleetReset (h : x.MarksAgree) (w : Weather) : (x.fleetReset w).MarksAgree := by
  have unclaimed : x.unclaim.MarksAgree := h.unbar (m := x.stranded && x.holder.isNone) id (by simp +contextual) id
  have tracked : (x.unclaim.resetTracker w).MarksAgree := by
    unfold RowState.resetTracker
    split
    · exact unclaimed.toReturn w
    iterate 3
      next ht =>
      split
      · exact of_cls_zero rfl fun hw => by simpa [ht] using unclaimed.2 hw
      · split
        · exact unclaimed.toResume
        · exact unclaimed
    all_goals exact unclaimed
  unfold RowState.fleetReset
  dsimp only
  split
  · exact of_cls_zero rfl tracked.2
  · exact tracked

end RowState.MarksAgree

/-! ## Changes of the block -/

/-- From `b` to `c` the marks of every row are kept. -/
def MarksKept (b c : Block) : Prop := ∀ r, (b.row r).MarksAgree → (c.row r).MarksAgree

namespace MarksKept

theorem refl (b : Block) : MarksKept b b := fun _ => id

theorem trans (h : MarksKept a b) (h' : MarksKept b c) : MarksKept a c := fun r => h' r ∘ h r

/-- A change beside the rows. -/
theorem of_rows (rows : c.rows = b.rows) : MarksKept b c := fun r => by unfold Block.row; rw [rows]; exact id

theorem then_rows (h : MarksKept a b) (rows : c.rows = b.rows) : MarksKept a c := h.trans (.of_rows rows)

theorem modRobot (b : Block) (k : RobotId) (g : Robot → Robot) : MarksKept b (b.modRobot k g) := of_rows rfl
theorem modShuttle (b : Block) (s : ShuttleId) (g : Shuttle → Shuttle) : MarksKept b (b.modShuttle s g) := of_rows rfl
theorem cancel (b : Block) (kind : DeadlineKind) : MarksKept b (b.cancel kind) := of_rows rfl
theorem arm (e : Env) (kind : DeadlineKind) (n : Nat) (b : Block) : MarksKept b (b.arm e kind n) := of_rows rfl
theorem faultShuttle (b : Block) (s : ShuttleId) (why : ShuttleCause) : MarksKept b (b.faultShuttle s why) := of_rows rfl

theorem modRow {g : RowState → RowState} (h : (b.row r).MarksAgree → (g (b.row r)).MarksAgree) : MarksKept b (b.modRow r g) := by
  intro r'
  rw [Block.row_modRow]
  split
  · next e => exact e ▸ h
  · exact id

theorem mapRows {g : RowId → RowState → RowState} (h : ∀ r, (b.row r).MarksAgree → (g r (b.row r)).MarksAgree) :
    MarksKept b (b.mapRows g) := fun r => by rw [Block.row_mapRows]; exact h r

theorem foldl {α : Type} {f : Block → α → Block} (step : ∀ c x, MarksKept c (f c x)) (l : List α) (b : Block) :
    MarksKept b (l.foldl f b) := by
  induction l generalizing b with
  | nil => exact refl b
  | cons x xs ih => exact (step b x).trans (ih _)

theorem classAnew (e : Env) (b : Block) (r : RowId) : MarksKept b (b.classAnew e r) := modRow fun h => .classed _ _ _ h.2

/-! ## Rounds (chapter 6) -/

theorem unreserve (b : Block) (r : RowId) : MarksKept b (b.unreserve r) := modRow id

theorem releaseOpen (b : Block) (rd : Round) : MarksKept b (b.releaseOpen rd) := foldl (fun c (x : Entry) => unreserve c x.row) _ b

theorem finishRound (b : Block) (k : RobotId) : MarksKept b (b.finishRound k).1 := of_rows (by
  unfold Block.finishRound
  split
  · rfl
  · split <;> rfl)

theorem settleEntry (b : Block) (k : RobotId) (r : RowId) (which : Entry → Bool) (st : EntryState) (why : Option SkipReason) :
    MarksKept b (b.settleEntry k r which st why).1 := by
  unfold Block.settleEntry
  split
  · exact refl b
  · split
    · exact ((modRobot b k _).trans (unreserve _ r)).trans (finishRound _ k)
    · exact refl b

theorem settleFailed (b : Block) (k : RobotId) (dest : Dest) (why : FailReason) : MarksKept b (b.settleFailed k dest why).1 := by
  unfold Block.settleFailed
  split
  · exact refl b
  · split
    · split
      · exact refl b
      · exact of_rows rfl
    all_goals exact settleEntry b k _ _ _ _

theorem discardRound (b : Block) (k : RobotId) : MarksKept b (b.discardRound k) := by
  unfold Block.discardRound
  split
  · exact refl b
  · exact (releaseOpen b _).then_rows rfl

theorem setEntered (b : Block) (k : RobotId) (r : RowId) : MarksKept b (b.setEntered k r) :=
  of_rows (by unfold Block.setEntered; split <;> rfl)

theorem buildRound (b : Block) (k : RobotId) (p : RowId) (rows : List RowId) : MarksKept b (b.buildRound k p rows) :=
  (foldl (fun _ _ => modRow id) rows b).then_rows rfl

/-! ## Holds (chapter 2) -/

theorem stowRelease (b : Block) (r : RowId) : MarksKept b (b.stowRelease r) := modRow fun h => h.toRelease _

theorem releaseAll (e : Env) (b : Block) : MarksKept b (b.releaseAll e) := mapRows fun r h => by
  split
  · exact h.toRelease _
  · exact h

theorem strandHeld (b : Block) : MarksKept b b.strandHeld := mapRows fun r h => by
  split
  · split
    · exact h.strand
    · exact h
  · exact h

theorem takeNotices (e : Env) (b : Block) (start : RowId) : MarksKept b (b.takeNotices e start) := mapRows fun r h => by
  split
  · exact ⟨h.1, by simp⟩
  · exact h

theorem claimRow (e : Env) (k : RobotId) (r : RowId) (b : Block) : MarksKept b (b.claimRow e k r) :=
  (MarksKept.trans (modRow fun h => RowState.MarksAgree.retrack (x := { b.row r with holder := some k }) h (by simp) (by simp))
    (modRobot _ k _)).trans (arm e _ _ _)

/-- The end of a pending claim (R25, R30). -/
theorem endClaim (fault : Bool) (pending : (b.row r).tracker = .holdPending) : MarksKept b (b.endClaim k r fault).1 := by
  unfold Block.endClaim
  dsimp only
  refine MarksKept.trans ?_ (settleEntry _ k r _ _ _)
  refine MarksKept.trans (modRow fun h => ?_) (modRobot _ k _)
  split
  · exact .of_cls_zero rfl fun hw => by simp [h.silent (by simp [pending])] at hw
  · exact RowState.MarksAgree.toReturn (x := { b.row r with holder := none }) h _

theorem holdConfirmExpired (k : RobotId) (b : Block) : MarksKept b (holdConfirmExpired k b).1 := by
  unfold Machine.holdConfirmExpired
  split
  · next r h =>
    have pending := List.find?_some h
    simp only [Bool.and_eq_true, beq_iff_eq] at pending
    exact endClaim false pending.2
  · exact refl b

theorem holdLimitExpired (k : RobotId) (b : Block) : MarksKept b (holdLimitExpired k b).1 := by
  unfold Machine.holdLimitExpired
  split
  · dsimp only
    split
    · exact MarksKept.trans (modRow id) (modRobot _ k _)
    · exact modRow id
  · exact refl b

/-- The grant of a pending hold (R24). -/
theorem grantHold (pending : (b.row r).tracker = .holdPending) : MarksKept b (b.grantHold e k r) := by
  refine MarksKept.trans ?_ (setEntered _ k r)
  refine MarksKept.trans (MarksKept.trans (modRow fun h => ?_) (modRobot _ k _)) ((cancel _ _).trans (arm e _ _ _))
  exact RowState.MarksAgree.retrack_silent (x := { b.row r with occupant := none }) h (by simp) (by simp [pending])

theorem exitRow (e : Env) (k : RobotId) (r : RowId) (b : Block) : MarksKept b (b.exitRow e k r).1 := by
  unfold Block.exitRow
  dsimp only
  refine MarksKept.trans ?_ (settleEntry _ k r _ _ _)
  have vacated : MarksKept b ((b.cancel (.holdLimit k)).modRow r (RowState.vacate b.weather k)) :=
    (cancel b _).trans (modRow fun h => h.vacate _ k)
  refine MarksKept.trans ?_ (modRobot _ k _)
  split
  · exact vacated.trans (classAnew e _ r)
  · exact vacated

theorem rowFaulted (r : RowId) (b : Block) : MarksKept b (rowFaulted r b).1 := by
  unfold Machine.rowFaulted
  split
  · next pending _ => exact (cancel b _).trans (endClaim true pending)
  · split
    · exact modRow fun h => .of_cls_zero rfl h.2
    · exact modRow fun _ => .of_cls_zero rfl (by simp [RowState.break])

theorem afterUnstow (b : Block) (r : RowId) : MarksKept b (b.afterUnstow r) := by
  unfold Block.afterUnstow
  dsimp only
  split
  · exact stowRelease b r
  · split
    · exact modRow .strand
    · exact refl b

theorem restoreRow (e : Env) (b : Block) (r : RowId) : MarksKept b (b.restoreRow e r) := by
  unfold Block.restoreRow
  split
  · exact (modRow fun h => h.restore _).trans (classAnew e _ r)
  · exact refl b

theorem brace (k : RobotId) (b : Block) : MarksKept b (b.brace k) := by
  unfold Block.brace
  dsimp only
  split
  · split
    · exact (modRobot b k _).trans (stowRelease _ _)
    · exact modRobot b k _
  · exact modRobot b k _

theorem unbrace (k : RobotId) (b : Block) : MarksKept b (b.unbrace k).1 := by
  unfold Block.unbrace
  split
  · exact MarksKept.trans (modRow .toHold) (modRobot _ k _)
  · exact modRobot b k _

/-! ## Transfers (chapter 4) -/

theorem placeLink (b : Block) (s : ShuttleId) (op : LinkOp) (counts : Bool) : MarksKept b (b.placeLink s op counts) :=
  of_rows (by rw [Block.placeLink_eq])

theorem askTransfer {origin : Origin} {dest : Dest} {t : Tag} (h : askTransfer e b origin k dest = .ok (c, s, t)) :
    MarksKept b c := by
  obtain ⟨src, -, rfl⟩ := askTransfer_ok h
  cases dest with
  | garage => exact of_rows rfl
  | rowEnd d => exact (MarksKept.trans (modRow id) (modRobot _ k _)).trans (modShuttle _ s _)

theorem startStep (t : Transfer) (x : RunStep) (b : Block) : MarksKept b (b.startStep e s t x) :=
  fun r => by rw [startStep_row]; exact id

theorem releaseDest (b : Block) (t : Transfer) : MarksKept b (b.releaseDest t) := by
  unfold Block.releaseDest
  split
  · exact modRow id
  · exact refl b

theorem removeRecord (b : Block) (s : ShuttleId) (t : Transfer) : MarksKept b (b.removeRecord s t) := by
  unfold Block.removeRecord
  dsimp only
  refine (MarksKept.trans (of_rows ?_) (releaseDest _ t)).trans (modRobot _ _ _)
  split <;> rfl

theorem failParts (b : Block) (s : ShuttleId) (t : Transfer) (why : FailReason) : MarksKept b (b.failParts s t why) :=
  (removeRecord b s t).then_rows rfl

theorem nothingToTake (b : Block) (k : RobotId) : MarksKept b (b.nothingToTake k).1 :=
  of_rows (by unfold Block.nothingToTake; split <;> rfl)

theorem failHandOn (b : Block) (t : Transfer) (why : FailReason) : MarksKept b (b.failHandOn t why).1 := by
  unfold Block.failHandOn
  split
  · exact refl b
  · split
    · exact nothingToTake b _
    · exact settleFailed b _ _ why
  · exact of_rows rfl
  all_goals
    split
    · exact refl b
    · exact nothingToTake b _

theorem failTransfer (b : Block) (s : ShuttleId) (t : Transfer) (why : FailReason) : MarksKept b (b.failTransfer s t why).1 :=
  (failParts b s t why).trans (failHandOn _ t why)

theorem failQueued (b : Block) (s : ShuttleId) (g : Tag) (why : FailReason) : MarksKept b (b.failQueued s g why).1 := by
  unfold Block.failQueued
  split
  · split
    · exact failTransfer b s _ why
    · exact refl b
  · exact refl b

theorem removeQueued (b : Block) (k : RobotId) : MarksKept b (b.removeQueued k).1 := by
  unfold Block.removeQueued
  split
  · split
    · exact removeRecord b _ _
    · exact refl b
  · exact refl b

theorem shuttleStepExpired (s : ShuttleId) (b : Block) : MarksKept b (shuttleStepExpired s b).1 := by
  have faulted := faultShuttle b s .timeout
  unfold Machine.shuttleStepExpired Block.failTag
  dsimp only
  split
  · split
    · exact faulted.trans (failTransfer _ s _ _)
    · exact faulted
  · exact faulted

theorem makeLocal (b : Block) (s : ShuttleId) : MarksKept b (b.makeLocal s) := of_rows (by rw [makeLocal_eq]; rfl)

theorem takePoll (b : Block) (s : ShuttleId) : MarksKept b (b.takePoll s) := by
  unfold Block.takePoll
  split
  · exact (modShuttle b s _).trans (placeLink _ s _ _)
  · exact refl b

theorem offerWork (e : Env) (s : ShuttleId) (b : Block) : MarksKept b (b.offerWork e s).1 := by
  unfold Block.offerWork
  dsimp only
  split
  · split
    · exact refl b
    · split
      · exact failTransfer b s _ _
      · exact (modShuttle b s _).trans (startStep _ _ _)
  · exact refl b

/-! ## Hand-ons of rounds, charges and robots (chapters 3 and 6) -/

theorem startEntries (e : Env) (k : RobotId) (p : RowId) (n : Nat) (rd : Round) (b : Block) :
    MarksKept b (startEntries e k p n rd b).2.1 := by
  induction n generalizing rd b with
  | zero => exact refl b
  | succ n ih =>
    have skipped (r : RowId) (rd : Round) : MarksKept b (Machine.startEntries e k p n rd (b.unreserve r)).2.1 :=
      (unreserve b r).trans (ih _ _)
    unfold Machine.startEntries
    split
    · exact refl b
    · split
      · exact skipped _ _
      · split
        · split
          · exact claimRow e k _ b
          · exact skipped _ _
        · split
          · next hask => exact askTransfer hask
          · exact skipped _ _

theorem handToRound (e : Env) (k : RobotId) (b : Block) : MarksKept b (handToRound e k b).2.1 := by
  unfold Machine.handToRound
  split
  · next p rd _ _ =>
    split
    · dsimp only
      have released : MarksKept b ((rd.entries.filter fun x => x.state == .active && x.entered).foldl
          (fun c x => c.unreserve x.row) b) := foldl (fun c (x : Entry) => unreserve c x.row) _ b
      refine MarksKept.trans (then_rows ?_ rfl) (finishRound _ k)
      split
      · exact released
      · split
        · exact released
        · exact released.trans (startEntries e k p _ _ _)
    · exact refl b
  · exact refl b

theorem chargePlan (e : Env) (k : RobotId) (b : Block) : MarksKept b (chargePlan e k b).1 := by
  unfold Machine.chargePlan
  split
  · exact refl b
  · dsimp only
    split
    · exact of_rows rfl
    · split
      · exact of_rows rfl
      · split
        · exact of_rows rfl
        · split
          · next hask => exact (askTransfer hask).then_rows rfl
          · exact of_rows rfl

theorem chargeTop (e : Env) (k : RobotId) (b : Block) : MarksKept b (chargeTop e k b).1 := by
  unfold Machine.chargeTop
  split
  · exact of_rows rfl
  · exact chargePlan e k b

theorem chargePop (e : Env) (k : RobotId) (b : Block) : MarksKept b (chargePop e k b).1 :=
  of_rows (by unfold Machine.chargePop; split <;> rfl)

theorem chargePush (e : Env) (k : RobotId) (b : Block) : MarksKept b (chargePush e k b).1 := by
  unfold Machine.chargePush
  dsimp only
  split
  · cases (b.robot k).mode
    case idle =>
      cases (b.robot k).location
      case rowEnd => exact (modRobot b k _).trans (chargePlan e k _)
      case unknown => exact modRobot b k _
      all_goals exact refl b
    case waitHold | onRow | waitTransfer | carried => exact modRobot b k _
    all_goals exact refl b
  · exact refl b

theorem chargeRetry (e : Env) (k : RobotId) (b : Block) : MarksKept b (chargeRetry e k b).1 := by
  unfold Machine.chargeRetry
  dsimp only
  split
  · split
    · split
      · exact chargePlan e k b
      · exact refl b
    · exact of_rows rfl
  · exact refl b

theorem comeToRest (e : Env) (k : RobotId) (b : Block) : MarksKept b (comeToRest e k b).1 := of_rows (by
  unfold Machine.comeToRest
  dsimp only
  split
  · rfl
  · split <;> rfl)

theorem faultReport (k : RobotId) (b : Block) : MarksKept b (faultReport k b).1 := by
  unfold Machine.faultReport
  split
  iterate 2 exact refl b
  · exact of_rows rfl
  all_goals exact ((modRobot b k _).trans (discardRound _ k)).trans (removeQueued _ k)

theorem clearReport (k : RobotId) (b : Block) : MarksKept b (clearReport k b).1 :=
  of_rows (by unfold Machine.clearReport; split <;> rfl)

theorem robotReport (k : RobotId) (battery : Byte) (fault : Bool) (ack : Option RowId) (b : Block) :
    MarksKept b (b.robotReport k battery fault ack).1 := by
  unfold Block.robotReport
  refine (modRobot b k (Robot.report battery ack)).trans ?_
  cases fault
  · exact clearReport k _
  · exact faultReport k _

/-! ## Storms (chapter 10) -/

theorem noPlace (b : Block) (k : RobotId) : MarksKept b (b.noPlace k) := of_rows (by unfold Block.noPlace; split <;> rfl)

theorem seekPlace (e : Env) (k : RobotId) (p : Option RowId) (via : Option ShuttleId) (garage : Bool) (b : Block) :
    MarksKept b (seekPlace e k p via garage b).1 := by
  unfold Machine.seekPlace
  split
  · exact noPlace b k
  · split
    · exact noPlace b k
    · extract_lets place
      cases place with
      | none => exact noPlace b k
      | some d =>
        dsimp only
        split
        · next hask => exact (askTransfer hask).then_rows rfl
        · exact of_rows rfl
        · exact noPlace b k

/-- The mark of a robot that stays on its row in a storm (R169). -/
theorem strandIf (late : Bool) (r : RowId) : MarksKept b (if late = true then b.modRow r RowState.strand else b) := by
  split
  · exact modRow .strand
  · exact refl b

theorem planRobot (e : Env) (k : RobotId) (b : Block) : MarksKept b (planRobot e k b).1 := by
  unfold Machine.planRobot
  extract_lets x late
  split
  · exact refl b
  · split
    · exact of_rows rfl
    · split
      · exact of_rows rfl
      · split
        · exact refl b
        · generalize x.mode = mode
          cases x.location with
          | carried u =>
            cases mode
            case waitHold => exact refl b
            all_goals exact seekPlace e k _ _ true b
          | rowEnd r =>
            cases mode
            case idle =>
              dsimp only
              split
              · exact of_rows rfl
              · exact seekPlace e k _ _ true b
            all_goals exact refl b
          | onRow r =>
            cases mode
            case onRow =>
              dsimp only
              split
              · exact ((strandIf late r).trans (modRobot _ k _)).trans (modRobot _ k _)
              · exact (strandIf late r).trans (modRobot _ k _)
            case faulted => exact strandIf late r
            all_goals exact refl b
          | nowhere | unknown => cases mode <;> exact of_rows rfl

theorem deadlinePlace (b : Block) (k : RobotId) : MarksKept b (b.deadlinePlace k) := by
  unfold Block.deadlinePlace
  split
  iterate 3 exact of_rows rfl
  iterate 2 exact (MarksKept.trans (modRow .strand) (modRobot _ k _)).trans (modRobot _ k _)
  · split <;> exact of_rows rfl
  all_goals exact of_rows rfl

theorem deadlineRobot (e : Env) (k : RobotId) (b : Block) : MarksKept b (deadlineRobot e k b).1 := by
  unfold Machine.deadlineRobot
  dsimp only
  split
  · exact refl b
  · split
    · next u t _ =>
      split
      · refine (failParts b u t .storm).trans ?_
        split
        · exact (settleFailed _ k t.dest .storm).trans (deadlinePlace _ k)
        · exact deadlinePlace _ k
      · exact refl b
    · exact deadlinePlace b k

theorem calmRobot (k : RobotId) (b : Block) : MarksKept b (calmRobot k b).1 :=
  of_rows (by unfold Machine.calmRobot; dsimp only; split <;> rfl)

theorem recoverTest (e : Env) (b : Block) : MarksKept b (recoverTest e b).1 :=
  of_rows (by unfold Machine.recoverTest; split <;> rfl)

theorem handLevel (e : Env) (l : Level) (filled : Bool) (b : Block) : MarksKept b (handLevel e l filled b).1 := of_rows (by
  unfold Machine.handLevel
  extract_lets b0 b1
  have first : b1.rows = b.rows := by
    show (if l = .none then b0 else b0.cancel .calmHoldoff).rows = b.rows
    split <;> rfl
  rw [← first]
  split
  · split
    iterate 3 rfl
    · dsimp only
      split <;> rfl
  · split
    · split <;> rfl
    iterate 4
      dsimp only
      split <;> rfl
    all_goals rfl)

theorem enterRecover (e : Env) (b : Block) : MarksKept b (b.enterRecover e).1 := by
  have rows : MarksKept b (b.mapRows fun r x =>
      let y := x.toUnstow.toResume
      if (e.row r).present then { y with restart := true } else y) := mapRows fun r h => by
    dsimp only
    split <;> exact h.toUnstow.toResume
  exact rows.then_rows rfl

theorem calmHoldoffExpired (e : Env) (b : Block) : MarksKept b (calmHoldoffExpired e b).1 := by
  unfold Machine.calmHoldoffExpired
  split
  · exact of_rows rfl
  iterate 2 exact enterRecover e b
  all_goals exact refl b

end MarksKept

/-! ## Every hand-on, and the cascade -/

theorem handle_keeps_marks (e : Env) (t : HandOn) (b : Block) : MarksKept b (handle e t b).1 := by
  cases t with
  | rest k => exact .comeToRest e k b
  | giveTop k => exact .of_rows (congrArg Block.rows (giveTop_fst k b))
  | chargeTop k => exact .chargeTop e k b
  | chargePush k => exact .chargePush e k b
  | chargePop k => exact .chargePop e k b
  | chargeRetry k => exact .chargeRetry e k b
  | handRound k => exact .handToRound e k b
  | planRobot k => exact .planRobot e k b
  | offer s => exact .offerWork e s b
  | failRecord s g why => exact .failQueued b s g why
  | releaseRows => exact .releaseAll e b
  | strandRows => exact .strandHeld b
  | deadlineRobot k => exact .deadlineRobot e k b
  | calmRobot k => exact .calmRobot k b
  | recoverTest => exact .recoverTest e b
  | pushParks | assertStowd | clearParkWaits | wantPlan k | pass | wantPass | holdOffers s | releaseOffers => exact .of_rows rfl

/-- What an event's own effect keeps of the marks, its hand-ons keep. -/
theorem MarksKept.finish {x : Handed} (h : MarksKept b x.1) (hf : Handed.finish e x = some c) : MarksKept b c :=
  finish_keeps (P := MarksKept b) (fun t y hy => hy.trans (handle_keeps_marks e t y)) hf h

end Sys2Proof.Machine
end

section
/-! PROOF. The link's completions and every command keep the marks, classes and resume notices of the rows (R36, R96). -/

namespace Sys2Proof.Machine

open Sys2Proof

variable {e : Env} {a b c d : Block} {r : RowId} {k : RobotId} {s : ShuttleId} {t : Transfer} {st : Status}

/-! ## Completions (chapters 4 and 5) -/

namespace MarksKept

theorem boarded (b : Block) (s : ShuttleId) (t : Transfer) : MarksKept b (b.boarded s t) := by
  unfold Block.boarded
  dsimp only
  split
  · exact ((modRobot b _ _).trans (modRow id)).trans (modShuttle _ s _)
  · exact of_rows rfl

theorem doneParts (b : Block) (s : ShuttleId) (t : Transfer) : MarksKept b (b.doneParts s t) := by
  unfold Block.doneParts
  dsimp only
  split
  · refine MarksKept.trans (MarksKept.trans ?_ (modRow id)) (modRobot _ _ _)
    exact of_rows rfl
  · exact of_rows rfl

theorem completeStep (e : Env) (s : ShuttleId) (t : Transfer) (x : RunStep) (b : Block) :
    MarksKept b (b.completeStep e s t x).1 := by
  unfold Block.completeStep
  cases x with
  | moveToSource => exact startStep t .loading b
  | loading => exact (boarded b s t).trans (startStep t .moveToDest _)
  | moveToDest =>
    dsimp only
    split
    · exact startStep t .unloading b
    · exact doneParts b s t
  | unloading => exact doneParts b s t

theorem steppingStatus (e : Env) (s : ShuttleId) (counts : Bool) (st : Status) (b : Block) :
    MarksKept b (steppingStatus e s counts st b).1 := by
  unfold Machine.steppingStatus
  split
  · dsimp only
    split
    · exact faultShuttle b s _
    · exact refl b
  · split
    · exact (faultShuttle b s _).trans (failTransfer _ s _ _)
    · split
      · split
        · exact completeStep e s _ _ b
        · exact refl b
      all_goals exact refl b

theorem idleStatus (s : ShuttleId) (st : Status) (b : Block) : MarksKept b (idleStatus s st b).1 := of_rows (by
  unfold Machine.idleStatus
  split
  · rfl
  · split <;> rfl)

theorem reconcileLoaded (e : Env) (s : ShuttleId) (t : Transfer) (st : Status) (b : Block) :
    MarksKept b (b.reconcileLoaded e s t st).1 := by
  unfold Block.reconcileLoaded
  extract_lets k b1 b2
  have left : MarksKept b b1 := by
    show MarksKept b (match t.source with
      | .rowEnd r => b.modRow r fun x => { x with occupant := if x.occupant = some k then none else x.occupant }
      | .carried _ => b)
    split
    · exact modRow id
    · exact refl b
  have aboard : MarksKept b b2 := left.then_rows rfl
  split
  · next kept b3 _ =>
    refine aboard.then_rows ?_
    show (if kept then b2 else b2.setOrder k .attend).rows = b2.rows
    split <;> rfl
  · split
    · exact ((aboard.trans (modRow id)).trans (modRobot _ k _)).trans (modShuttle _ s _)
    · exact aboard.then_rows rfl

theorem reconcileEmpty (e : Env) (t : Transfer) (x : RunStep) (st : Status) (before c : Block) :
    MarksKept c (reconcileEmpty e t x st before c) := by
  unfold Machine.reconcileEmpty
  split
  iterate 2 exact of_rows rfl
  all_goals
    dsimp only
    split
    · exact MarksKept.trans (modRow id) (modRobot _ _ _)
    · exact of_rows rfl

theorem reconcile (e : Env) (s : ShuttleId) (t : Transfer) (x : RunStep) (st : Status) (b : Block) :
    MarksKept b (reconcile e s t x st b).1 := by
  unfold Machine.reconcile
  dsimp only
  split
  · exact (failParts b s t .link).trans (reconcileLoaded e s t st _)
  · exact (failParts b s t .link).trans (reconcileEmpty e t x st b _)

theorem reconcileHandOn (b : Block) (t : Transfer) : MarksKept b (b.reconcileHandOn t).1 := by
  have round : MarksKept b (b.reconcileRound t).1 := by
    unfold Block.reconcileRound
    split
    · exact settleFailed b _ _ .link
    · exact of_rows rfl
    · exact refl b
  unfold Block.reconcileHandOn
  dsimp only
  split
  · exact round
  · split
    iterate 2 exact round.then_rows rfl
    all_goals exact round

theorem firstStatusChecks (s : ShuttleId) (st : Status) (b : Block) : MarksKept b (firstStatusChecks s st b).1 := by
  unfold Machine.firstStatusChecks
  split
  · exact of_rows rfl
  · split
    · split
      · exact of_rows rfl
      · split
        · exact ((modRobot b _ _).trans (modRow id)).trans (modShuttle _ s _)
        · exact of_rows rfl
    · split <;> exact of_rows rfl

theorem firstStatus (e : Env) (s : ShuttleId) (st : Status) (b : Block) : MarksKept b (firstStatus e s st b).1 := by
  unfold Machine.firstStatus
  split
  · exact firstStatusChecks s st b
  · exact ((reconcile e s _ _ st b).trans (firstStatusChecks s st _)).trans (reconcileHandOn _ _)

theorem commandDone (e : Env) (s : ShuttleId) (b : Block) : MarksKept b (commandDone e s b) :=
  of_rows (by unfold Machine.commandDone; split <;> rfl)

theorem statusDone (e : Env) (s : ShuttleId) (counts : Bool) (d : StatusBytes) (b : Block) :
    MarksKept b (statusDone e s counts d b).1 := by
  unfold Machine.statusDone
  cases readStatus (b.shuttle s) d with
  | none =>
    dsimp only
    split <;> exact of_rows rfl
  | some v =>
    dsimp only
    split
    · exact of_rows rfl
    · have read := ((modShuttle b s fun x => { x with lastFault := v.fault }).trans (modShuttle _ s fun x =>
        { x with pollDue := some e.params.pollInterval })).trans (modShuttle _ s fun x => { x with position := some v.place })
      split
      iterate 2 exact read.trans (steppingStatus e s counts v _)
      · exact read.trans (idleStatus s v _)
      · exact read.trans (firstStatus e s v _)
      all_goals exact of_rows rfl

theorem completeTransaction (e : Env) (d : StatusBytes) (b : Block) : MarksKept b (completeTransaction e d b).1 := by
  unfold Machine.completeTransaction
  split
  · exact refl b
  · dsimp only
    split
    · exact of_rows rfl
    · have landed : MarksKept b { b with link := { b.link with inFlight := none } } := of_rows rfl
      split
      · exact landed.trans (statusDone e _ _ d _)
      · exact landed.trans (commandDone e _ _)

theorem startTransaction (e : Env) (contend : Bool) (b : Block) : MarksKept b (b.startTransaction e contend) := of_rows (by
  unfold Block.startTransaction
  split
  · split
    · rfl
    · split
      · rfl
      · dsimp only
        split <;> rfl
  · rfl)

theorem resumeLink (b : Block) : MarksKept b b.resumeLink :=
  MarksKept.trans (b := { b with link := { b.link with enabled := true } }) (of_rows rfl)
    (foldl (fun c u => placeLink c u _ _) _ _)

/-! ## Robots and the bay (chapters 1 and 3) -/

theorem enroll (k : RobotId) (r : RowId) (b : Block) : MarksKept b (b.enroll k r) :=
  MarksKept.trans (modRow id) (modRobot _ k _)

theorem withdraw (k : RobotId) (b : Block) : MarksKept b (b.withdraw k) := by
  unfold Block.withdraw
  dsimp only
  refine then_rows ?_ rfl
  split
  · exact modRow id
  all_goals exact refl b

theorem fleetReset (e : Env) (b : Block) : MarksKept b (b.fleetReset e) := by
  have rows : MarksKept b (b.mapRows fun r x => if (e.row r).present then x.fleetReset b.weather else x) :=
    mapRows fun r h => by
      split
      · exact h.fleetReset _
      · exact h
  refine MarksKept.trans ?_ (foldl (fun c u => makeLocal c u) _ _)
  exact rows.then_rows rfl

theorem setRange (u : State) (s : ShuttleId) (given : Option (Bay × Bay)) : MarksKept u.blk (u.setRange s given).blk := by
  unfold State.setRange
  dsimp only
  split
  · exact (modShuttle u.blk s _).trans (makeLocal _ s)
  · exact of_rows (by rw [makeOffline_eq]; rfl)

theorem loadBay (u : State) (bay : Bay) (entries : Vector PlaceEntry 16) : MarksKept u.blk (u.loadBay bay entries).blk := by
  have fresh : RowState.fresh.MarksAgree := by decide
  refine mapRows fun r h => ?_
  split
  · unfold loadedState
    split
    · exact fresh.toRelease _
    · exact fresh
  · exact h

/-! ## Ticks (chapter 1) -/

theorem expiryRule (e : Env) (kind : DeadlineKind) (b : Block) : MarksKept b (expiryRule e kind b).1 := by
  cases kind with
  | holdConfirm k => exact holdConfirmExpired k b
  | holdLimit k => exact holdLimitExpired k b
  | shuttleStep s => exact shuttleStepExpired s b
  | parkDeadline => exact of_rows rfl
  | calmHoldoff => exact calmHoldoffExpired e b

theorem handOut (n : Nat) (h : handOut e n b = some c) : MarksKept b c := by
  induction n generalizing b with
  | zero => cases h; exact refl _
  | succ n ih =>
    unfold Machine.handOut at h
    split at h
    · cases h; exact refl _
    · next d _ =>
      obtain ⟨x, hx, hn⟩ := Option.bind_eq_some_iff.mp h
      have cancelled : MarksKept b (b.cancel d.kind) := of_rows rfl
      exact ((cancelled.trans (expiryRule e d.kind _)).finish hx).trans (ih hn)

theorem catchUp (h : b.catchUp e = some c) : MarksKept b c := by
  obtain ⟨x, hx, rfl⟩ := Option.map_eq_some_iff.mp h
  exact (handOut _ hx).trans (foldl takePoll _ x)

end MarksKept

/-! ## Requests and events -/

section

variable {s t u : State} {f : Frame}

/-- The rule of a request keeps the marks, whatever it answers. -/
def ServedKeepsMarks (b : Block) (x : Served) : Prop := ∀ u a, x = some (u, a) → MarksKept b u.blk

namespace ServedKeepsMarks

variable {answer : Answer}

theorem some (h : MarksKept b u.blk) : ServedKeepsMarks b (some (u, answer)) := by
  intro _ _ hu
  cases hu
  exact h

theorem refuse (u : State) (code : Code) : ServedKeepsMarks u.blk (u.refuse code) := some (.refl _)

/-- A rule on the block with its hand-ons taken to their end. -/
theorem serve {x : Handed} (h : MarksKept b x.1) : ServedKeepsMarks b (u.serve x answer) := by
  intro v a hv
  obtain ⟨c, hc, rfl, -⟩ := serve_some hv
  exact h.finish hc

theorem onRow {r : RowId} {x : Served} (h : ServedKeepsMarks u.blk x) : ServedKeepsMarks u.blk (u.onRow r u.refuse x) := by
  unfold State.onRow
  split
  · exact h
  · exact refuse u _

theorem onRobot {robot : Byte} {x : RobotId → Served} (h : ∀ k, ServedKeepsMarks u.blk (x k)) :
    ServedKeepsMarks u.blk (onRobot robot u.refuse x) := by
  unfold Machine.onRobot
  split
  · exact h _
  · exact refuse u _

end ServedKeepsMarks

theorem request_keeps_marks {q : Request} {body : State → Served} (h : request q f s body = .next t)
    (kept : ServedKeepsMarks (s.taken f).blk (body (s.taken f))) : MarksKept s.blk t.blk := by
  obtain ⟨-, rfl⟩ | ⟨-, -, rfl⟩ | ⟨-, -, c, -, rfl⟩ | ⟨-, -, -, u, a, hu, rfl⟩ := request_next h
  · exact .refl _
  · exact .of_rows (by simp)
  · exact .of_rows (by simp)
  · simpa using kept u a hu

theorem awake_keeps_marks {go : Result} (h : awake s go = .next t) (live : go = .next t → MarksKept s.blk t.blk) :
    MarksKept s.blk t.blk := by
  unfold awake at h
  split at h
  · cases h; exact .refl _
  · exact live h

theorem event_keeps_marks {x : Handed} (hx : MarksKept s.blk x.1) (h : s.event x = .next t) : MarksKept s.blk t.blk := by
  obtain ⟨b, hb, rfl⟩ := event_next h
  exact hx.finish hb

theorem expiry_keeps_marks {kind : DeadlineKind} {rule : Block → Handed} (keeps : ∀ b, MarksKept b (rule b).1)
    (h : s.expiry kind rule = .next t) : MarksKept s.blk t.blk := by
  refine awake_keeps_marks h fun h => ?_
  split at h
  · exact event_keeps_marks ((MarksKept.cancel s.blk kind).trans (keeps _)) h
  · cases h; exact .refl _

/-! ## The commands that write marks, classes and notices -/

theorem execLockRow_keeps_marks {r : RowId} (h : execLockRow f r s = .next t) : MarksKept s.blk t.blk :=
  request_keeps_marks h (.onRow (.some (.modRow fun hr => .of_cls_zero rfl hr.2)))

theorem execRestoreRow_keeps_marks {r : RowId} (h : execRestoreRow f r s = .next t) : MarksKept s.blk t.blk :=
  request_keeps_marks h (.onRow (.some (.restoreRow _ _ r)))

theorem execFetchAttention_keeps_marks {r : RowId} (h : execFetchAttention f r s = .next t) : MarksKept s.blk t.blk :=
  request_keeps_marks h (.some (.takeNotices _ _ r))

theorem execRowFault_keeps_marks {r : RowId} (h : execRowFault f r s = .next t) : MarksKept s.blk t.blk :=
  request_keeps_marks h (.onRow (.serve (.rowFaulted r _)))

theorem execCalibrateRow_keeps_marks {r : RowId} {kc : BitVec 16} (h : execCalibrateRow f r kc s = .next t) : MarksKept s.blk t.blk :=
  request_keeps_marks h (.onRow (.some (MarksKept.trans (.modRow id) (.classAnew _ _ r))))

theorem execHoldConfirm_keeps_marks {r : RowId} (h : execHoldConfirm f r s = .next t) : MarksKept s.blk t.blk := by
  refine request_keeps_marks h (.onRow ?_)
  split
  · next pending _ => exact .serve (.grantHold pending)
  · exact .some (.modRow .lateConfirm)

theorem execStowDone_keeps_marks {r : RowId} (h : execStowDone f r s = .next t) : MarksKept s.blk t.blk := by
  refine request_keeps_marks h (.onRow ?_)
  split
  · next was => exact .serve (.modRow fun hr => hr.stow _ was)
  · exact .refuse _ _

theorem execUnstowDone_keeps_marks {r : RowId} (h : execUnstowDone f r s = .next t) : MarksKept s.blk t.blk := by
  refine request_keeps_marks h (.onRow ?_)
  split
  · next was => exact .serve (MarksKept.trans (.modRow fun hr => hr.unstow was) (.afterUnstow _ r))
  · exact .refuse _ _

theorem execRowReady_keeps_marks {r : RowId} (h : execRowReady f r s = .next t) : MarksKept s.blk t.blk := by
  refine request_keeps_marks h (.onRow ?_)
  split
  · next was => exact .some (MarksKept.trans (.modRow fun hr => hr.repaired _ was) (.classAnew _ _ r))
  · split
    · exact .some (MarksKept.trans (.modRow fun hr => hr.unbar id id (by simp)) (.classAnew _ _ r))
    · exact .refuse _ _

theorem execEnterRow_keeps_marks {robot : Byte} {r : RowId} (h : execEnterRow f robot r s = .next t) :
    MarksKept s.blk t.blk := by
  refine request_keeps_marks h (.onRow (.onRobot fun k => ?_))
  split
  · exact .some (.refl _)
  · exact .some (.claimRow _ k r _)

theorem execExitRow_keeps_marks {robot : Byte} (h : execExitRow f robot s = .next t) : MarksKept s.blk t.blk := by
  refine request_keeps_marks h (.onRobot fun k => ?_)
  split
  · exact .refuse _ _
  · exact .serve (.exitRow _ k _ _)

theorem execCleanDone_keeps_marks {robot : Byte} (h : execCleanDone f robot s = .next t) : MarksKept s.blk t.blk := by
  refine request_keeps_marks h (.onRobot fun k => ?_)
  split
  · exact .refuse _ _
  · exact .serve (MarksKept.trans (.modRow fun hr => .of_cls_zero rfl hr.2) (.settleEntry _ k _ _ _ _))

theorem execCleanAbort_keeps_marks {robot : Byte} (h : execCleanAbort f robot s = .next t) : MarksKept s.blk t.blk := by
  refine request_keeps_marks h (.onRobot fun k => ?_)
  split
  · exact .refuse _ _
  · exact .serve (.settleEntry _ k _ _ _ _)

theorem execRequestWork_keeps_marks {robot : Byte} (h : execRequestWork f robot s = .next t) : MarksKept s.blk t.blk := by
  refine request_keeps_marks h (.onRobot fun k => ?_)
  split
  · exact .refuse _ _
  · split
    · exact .refuse _ _
    · exact .serve (MarksKept.trans (.buildRound _ k _ _) (.handToRound _ k _))

theorem execMapBay_keeps_marks {bay : Byte} {entries : Vector PlaceEntry 16} (h : execMapBay f bay entries s = .next t) :
    MarksKept s.blk t.blk := by
  refine request_keeps_marks h ?_
  split
  · exact .refuse _ _
  · split
    · exact .refuse _ _
    · exact .serve (.loadBay _ _ _)

theorem execConfigure_keeps_marks {parameter : Byte} {value : BitVec 32} (h : execConfigure f parameter value s = .next t) :
    MarksKept s.blk t.blk := by
  refine request_keeps_marks h ?_
  split
  · exact .refuse _ _
  · dsimp only
    split
    · exact .serve (.handLevel _ _ _ _)
    · exact .some (.refl _)

/-- A row step leaves the row's class by the class test and its marks as they are (R96, R131). -/
theorem litStep_agrees {p : Params} {x : Report} {pm : Nat} {z : RowData} {y : RowState} {bank : Bank} (h : y.MarksAgree) :
    (litStep p x pm z y bank).2.1.MarksAgree := by
  unfold litStep
  dsimp only
  split
  · exact .classed p _ true h.2
  · exact .classed (x := { y with restart := false }) p _ true h.2

theorem execRowStep_keeps_marks (h : execRowStep s = .next t) : MarksKept s.blk t.blk := by
  have after (u : State) (x : Report) : (u.afterStep x).blk = u.blk := by unfold State.afterStep; split <;> rfl
  refine awake_keeps_marks h fun h => ?_
  split at h
  · cases h; exact .refl _
  · split at h
    · cases h; exact .refl _
    · split at h
      · cases h; exact .refl _
      · cases h
        rw [after]
        unfold State.stepRow
        dsimp only
        split
        · exact .refl _
        · split
          · exact .refl _
          · exact .modRow litStep_agrees

/-! ## The commands that change robots, shuttles and the link -/

theorem execFleetReset_keeps_marks (h : execFleetReset f s = .next t) : MarksKept s.blk t.blk :=
  request_keeps_marks h (.serve (.fleetReset _ _))

theorem execEnroll_keeps_marks {robot : Byte} {r : RowId} (h : execEnroll f robot r s = .next t) : MarksKept s.blk t.blk := by
  refine request_keeps_marks h (.onRow (.onRobot fun k => ?_))
  split
  · exact .refuse _ _
  · exact .serve (.enroll k r _)

theorem execWithdraw_keeps_marks {robot : Byte} (h : execWithdraw f robot s = .next t) : MarksKept s.blk t.blk := by
  refine request_keeps_marks h (.onRobot fun k => ?_)
  split
  · exact .some (.withdraw k _)
  · exact .refuse _ _

theorem execRobotStatus_keeps_marks {robot battery : Byte} {fault : Bool} {ack : Option RowId}
    (h : execRobotStatus f robot battery fault ack s = .next t) : MarksKept s.blk t.blk := by
  refine request_keeps_marks h (.onRobot fun k => ?_)
  split
  · exact .refuse _ _
  · exact .serve (.robotReport k _ _ _ _)

theorem execBraced_keeps_marks {robot : Byte} (h : execBraced f robot s = .next t) : MarksKept s.blk t.blk := by
  refine request_keeps_marks h (.onRobot fun k => ?_)
  split
  · exact .refuse _ _
  · split
    · exact .some (.refl _)
    · split
      · exact .serve (.brace k _)
      · exact .refuse _ _

theorem execUnbraced_keeps_marks {robot : Byte} (h : execUnbraced f robot s = .next t) : MarksKept s.blk t.blk := by
  refine request_keeps_marks h (.onRobot fun k => ?_)
  split
  · exact .refuse _ _
  · split
    · exact .refuse _ _
    · exact .serve (.unbrace k _)

theorem execTransfer_keeps_marks {robot : Byte} {dest : Dest} (h : execTransfer f robot dest s = .next t) :
    MarksKept s.blk t.blk := by
  refine request_keeps_marks h ?_
  split
  · refine .onRobot fun k => ?_
    split
    · exact .refuse _ _
    · next hask => exact .serve (.askTransfer hask)
  · exact .refuse _ _

theorem execSetShuttle_keeps_marks {shuttle first last : Byte} (h : execSetShuttle f shuttle first last s = .next t) :
    MarksKept s.blk t.blk := by
  refine request_keeps_marks h ?_
  split
  · split
    · exact .refuse _ _
    · split
      · exact .refuse _ _
      · exact .some (.setRange _ _ _)
  · exact .refuse _ _

theorem execClearShuttle_keeps_marks {shuttle : Byte} (h : execClearShuttle f shuttle s = .next t) : MarksKept s.blk t.blk := by
  refine request_keeps_marks h ?_
  split
  · exact .refuse _ _
  · split
    · exact .some (.makeLocal _ _)
    · exact .refuse _ _

theorem execReadShuttle_keeps_marks {shuttle : Byte} (h : execReadShuttle f shuttle s = .next t) : MarksKept s.blk t.blk := by
  refine request_keeps_marks h ?_
  split
  · exact .refuse _ _
  · exact .some (.of_rows (by rw [State.linkRead_eq]))

theorem execLinkResume_keeps_marks (h : execLinkResume f s = .next t) : MarksKept s.blk t.blk := by
  refine request_keeps_marks h ?_
  split
  · exact .refuse _ _
  · exact .some (.resumeLink _)

theorem execContendAsserted_keeps_marks (h : execContendAsserted s = .next t) : MarksKept s.blk t.blk := by
  unfold execContendAsserted at h
  split at h
  · cases h; exact .refl _
  · split at h <;> cases h <;> exact .of_rows rfl

theorem execOutputReport_keeps_marks {pref v : BitVec 16} {n : Byte} {pairs : List (RowId × BitVec 16)}
    (h : execOutputReport f pref v n pairs s = .next t) : MarksKept s.blk t.blk := by
  refine request_keeps_marks h ?_
  split
  · exact .refuse _ _
  · exact .some (.of_rows (by rw [takeSlot_blk]))

/-! ## The commands of the ports, the clock and the masts, and the reads -/

theorem execReadRow_keeps_marks {r : RowId} (h : execReadRow f r s = .next t) : MarksKept s.blk t.blk :=
  request_keeps_marks h (.onRow (.some (.refl _)))

theorem execReadRobot_keeps_marks {robot : Byte} (h : execReadRobot f robot s = .next t) : MarksKept s.blk t.blk :=
  request_keeps_marks h (.onRobot fun _ => .some (.refl _))

theorem execFetchOrders_keeps_marks (h : execFetchOrders f s = .next t) : MarksKept s.blk t.blk :=
  request_keeps_marks h (.some (.of_rows rfl))

theorem execReadWeather_keeps_marks (h : execReadWeather f s = .next t) : MarksKept s.blk t.blk :=
  request_keeps_marks h (.some (.of_rows (by rw [State.weatherRead_eq])))

theorem execSetTime_keeps_marks {v : FarmSecond} (h : execSetTime f v s = .next t) : MarksKept s.blk t.blk :=
  request_keeps_marks h (.some (.of_rows rfl))

theorem execClosePeriod_keeps_marks (h : execClosePeriod f s = .next t) : MarksKept s.blk t.blk :=
  request_keeps_marks h (.some (.refl _))

theorem execReadPeriod_keeps_marks (h : execReadPeriod f s = .next t) : MarksKept s.blk t.blk :=
  request_keeps_marks h (.some (.refl _))

theorem execReadLive_keeps_marks (h : execReadLive f s = .next t) : MarksKept s.blk t.blk :=
  request_keeps_marks h (.some (.refl _))

theorem execResetAccounts_keeps_marks (h : execResetAccounts f s = .next t) : MarksKept s.blk t.blk :=
  request_keeps_marks h (.some (.refl _))

theorem execStatusRead_keeps_marks {p : Port} {n : Fin 3} (h : execStatusRead p n s = .next t) : MarksKept s.blk t.blk :=
  awake_keeps_marks h fun h => by cases h; exact .of_rows (by simp)

theorem execTruncatedFrame_keeps_marks {p : Port} (h : execTruncatedFrame p s = .next t) : MarksKept s.blk t.blk :=
  awake_keeps_marks h fun h => by cases h; exact .of_rows (by simp)

theorem execPollDue_keeps_marks {v : ShuttleId} (h : execPollDue v s = .next t) : MarksKept s.blk t.blk :=
  awake_keeps_marks h fun h => by cases h; exact .takePoll _ _

theorem execTransactionStart_keeps_marks (h : execTransactionStart s = .next t) : MarksKept s.blk t.blk :=
  awake_keeps_marks h fun h => by cases h; exact .startTransaction _ _ _

theorem execTransactionCompletion_keeps_marks {data : StatusBytes} (h : execTransactionCompletion data s = .next t) : MarksKept s.blk t.blk :=
  awake_keeps_marks h fun h => event_keeps_marks (.completeTransaction _ _ _) h

theorem execMastPulse_keeps_marks {m : Mast} (h : execMastPulse m s = .next t) : MarksKept s.blk t.blk :=
  awake_keeps_marks h fun h => by cases h; cases m <;> exact .refl _

theorem execPowerOn_keeps_marks (h : execPowerOn s = .next t) : MarksKept s.blk t.blk := by
  cases h
  intro r _
  show (Block.fresh.row r).MarksAgree
  rw [Block.fresh_row]
  decide

theorem execFetch_keeps_marks {p : Port} {n : Nat} (h : execFetch p n s = .next t) : MarksKept s.blk t.blk := by
  refine awake_keeps_marks h fun h => .of_rows ?_
  split at h
  · cases h; simp
  · dsimp only at h
    split at h
    · cases h; simp
    · split at h <;> cases h <;> simp

theorem execUnknownRequest_keeps_marks {kind : Byte} (h : execUnknownRequest f kind s = .next t) : MarksKept s.blk t.blk := by
  unfold execUnknownRequest at h
  split at h
  · cases h
  · exact request_keeps_marks h (.refuse _ _)

theorem execPortReset_keeps_marks {p : Port} (h : execPortReset p s = .next t) : MarksKept s.blk t.blk := by
  refine awake_keeps_marks h fun h => .of_rows ?_
  cases p <;> cases h <;> simp

theorem execMastStep_keeps_marks (h : execMastStep s = .next t) : MarksKept s.blk t.blk := by
  refine awake_keeps_marks h fun h => ?_
  split at h
  · cases h; exact .refl _
  · next m c _ =>
    have stepped : (s.stepMast m c).blk = s.blk := by cases m <;> rfl
    rw [← stepped]
    exact event_keeps_marks (.handLevel _ _ _ _) h

theorem execTick_keeps_marks (h : execTick s = .next t) : MarksKept s.blk t.blk := by
  refine awake_keeps_marks h fun h => ?_
  split at h
  · cases h
  · next hb =>
    cases h
    exact (MarksKept.catchUp hb).then_rows rfl

/-! ## Every command and every step -/

/-- Every command keeps the marks, classes and resume notices of the rows. -/
theorem exec_keeps_marks (i : Instr) (h : exec i s = .next t) : MarksKept s.blk t.blk := by
  cases i with
  | fetch _ _ => exact execFetch_keeps_marks h
  | statusRead _ n => exact execStatusRead_keeps_marks (n := n) h
  | truncatedFrame _ => exact execTruncatedFrame_keeps_marks h
  | unknownRequest _ _ => exact execUnknownRequest_keeps_marks h
  | portReset _ => exact execPortReset_keeps_marks h
  | readRow _ _ => exact execReadRow_keeps_marks h
  | readRobot _ _ => exact execReadRobot_keeps_marks h
  | readShuttle _ _ => exact execReadShuttle_keeps_marks h
  | readWeather _ => exact execReadWeather_keeps_marks h
  | mapBay _ _ _ => exact execMapBay_keeps_marks h
  | setShuttle _ _ _ _ => exact execSetShuttle_keeps_marks h
  | configure _ _ _ => exact execConfigure_keeps_marks h
  | setTime _ _ => exact execSetTime_keeps_marks h
  | outputReport _ _ _ _ _ => exact execOutputReport_keeps_marks h
  | closePeriod _ => exact execClosePeriod_keeps_marks h
  | readPeriod _ => exact execReadPeriod_keeps_marks h
  | readLive _ => exact execReadLive_keeps_marks h
  | resetAccounts _ => exact execResetAccounts_keeps_marks h
  | calibrateRow _ _ _ => exact execCalibrateRow_keeps_marks h
  | lockRow _ _ => exact execLockRow_keeps_marks h
  | restoreRow _ _ => exact execRestoreRow_keeps_marks h
  | clearShuttle _ _ => exact execClearShuttle_keeps_marks h
  | linkResume _ => exact execLinkResume_keeps_marks h
  | fleetReset _ => exact execFleetReset_keeps_marks h
  | fetchAttention _ _ => exact execFetchAttention_keeps_marks h
  | holdConfirm _ _ => exact execHoldConfirm_keeps_marks h
  | stowDone _ _ => exact execStowDone_keeps_marks h
  | unstowDone _ _ => exact execUnstowDone_keeps_marks h
  | rowFault _ _ => exact execRowFault_keeps_marks h
  | rowReady _ _ => exact execRowReady_keeps_marks h
  | enroll _ _ _ => exact execEnroll_keeps_marks h
  | withdraw _ _ => exact execWithdraw_keeps_marks h
  | robotStatus _ _ _ _ _ => exact execRobotStatus_keeps_marks h
  | requestWork _ _ => exact execRequestWork_keeps_marks h
  | enterRow _ _ _ => exact execEnterRow_keeps_marks h
  | exitRow _ _ => exact execExitRow_keeps_marks h
  | cleanDone _ _ => exact execCleanDone_keeps_marks h
  | cleanAbort _ _ => exact execCleanAbort_keeps_marks h
  | braced _ _ => exact execBraced_keeps_marks h
  | unbraced _ _ => exact execUnbraced_keeps_marks h
  | transfer _ _ _ => exact execTransfer_keeps_marks h
  | fetchOrders _ => exact execFetchOrders_keeps_marks h
  | resetnAsserted => cases h; exact .refl _
  | powerOn => exact execPowerOn_keeps_marks h
  | tick => exact execTick_keeps_marks h
  | mastPulse _ => exact execMastPulse_keeps_marks h
  | contendAsserted => exact execContendAsserted_keeps_marks h
  | contendDeasserted => cases h; exact .refl _
  | holdConfirmExpiry k => exact expiry_keeps_marks (.holdConfirmExpired k) h
  | holdLimitExpiry k => exact expiry_keeps_marks (.holdLimitExpired k) h
  | shuttleStepExpiry v => exact expiry_keeps_marks (.shuttleStepExpired v) h
  | parkDeadlineExpiry => exact expiry_keeps_marks (fun _ => .of_rows rfl) h
  | calmHoldoffExpiry => exact expiry_keeps_marks (.calmHoldoffExpired _) h
  | pollDue _ => exact execPollDue_keeps_marks h
  | transactionStart => exact execTransactionStart_keeps_marks h
  | transactionCompletion _ => exact execTransactionCompletion_keeps_marks h
  | rowStep => exact execRowStep_keeps_marks h
  | mastStep => exact execMastStep_keeps_marks h

end

/-- Settles O57: the marks of a row agree after every command where they agreed before it (`exec_keeps_marks`). -/
theorem marksStayAgreed : Obligations.MarksStayAgreed := by
  unfold Obligations.MarksStayAgreed
  intro s t hs h
  unfold step at h
  split at h
  · cases h; exact hs
  · next i rest _ => exact fun r => exec_keeps_marks i h r (hs r)

end Sys2Proof.Machine
end

section
/-! PROOF. The search of a round's rows (R100, R102, R103): the search order and its sweep key, the candidates ranked by class, and
the rows taken of them. -/

namespace Sys2Proof.Machine

open Sys2Proof

variable {e : Env} {b : Block} {lo hi : Nat} {p r x y : RowId}

/-! ## The search order (R102) -/

/-- The place of a row in the search order from `p` over the rows `lo` to `hi` (R102). -/
def sweepKey (lo hi : Nat) (p r : RowId) : Nat := (r.val + (hi - lo + 1) - p.val) % (hi - lo + 1)

theorem sweepKey_from (h : p.val ≤ r.val) (top : r.val ≤ hi) (bottom : lo ≤ p.val) : sweepKey lo hi p r = r.val - p.val := by
  rw [sweepKey, show r.val + (hi - lo + 1) - p.val = r.val - p.val + (hi - lo + 1) by omega, Nat.add_mod_right,
    Nat.mod_eq_of_lt (by omega)]

theorem sweepKey_before (h : r.val < p.val) (bottom : lo ≤ r.val) (top : p.val ≤ hi) :
    sweepKey lo hi p r = r.val + (hi - lo + 1) - p.val := Nat.mod_eq_of_lt (by omega)

theorem mem_searchOrder (bottom : lo ≤ p.val) (top : p.val ≤ hi) : r ∈ searchOrder lo hi p ↔ lo ≤ r.val ∧ r.val ≤ hi := by
  simp only [searchOrder, List.mem_append, List.mem_filter, allRows, List.mem_finRange, true_and, decide_eq_true_eq]
  omega

theorem allRows_ascending : allRows.Pairwise (· < ·) := List.pairwise_lt_finRange 256

/-- The search order is the ascending order of the sweep key. -/
theorem searchOrder_by_key (bottom : lo ≤ p.val) (top : p.val ≤ hi) :
    (searchOrder lo hi p).Pairwise fun x y => sweepKey lo hi p x < sweepKey lo hi p y := by
  rw [searchOrder, List.pairwise_append]
  simp only [List.mem_filter, decide_eq_true_eq]
  refine ⟨?_, ?_, ?_⟩
  · refine (allRows_ascending.filter _).imp_of_mem fun {x y} hx hy hlt => ?_
    simp only [List.mem_filter, decide_eq_true_eq] at hx hy
    rw [sweepKey_from hx.2.1 hx.2.2 bottom, sweepKey_from hy.2.1 hy.2.2 bottom]
    have : x.val < y.val := hlt
    omega
  · refine (allRows_ascending.filter _).imp_of_mem fun {x y} hx hy hlt => ?_
    simp only [List.mem_filter, decide_eq_true_eq] at hx hy
    rw [sweepKey_before hx.2.2 hx.2.1 top, sweepKey_before hy.2.2 hy.2.1 top]
    have : x.val < y.val := hlt
    omega
  · rintro x ⟨-, hx⟩ y ⟨-, hy⟩
    rw [sweepKey_from hx.1 hx.2 bottom, sweepKey_before hy.2 hy.1 top]
    omega

theorem searchOrder_nodup (lo hi : Nat) (p : RowId) : (searchOrder lo hi p).Nodup := by
  rw [searchOrder, List.nodup_append]
  have rows : allRows.Nodup := List.nodup_finRange 256
  refine ⟨rows.filter _, rows.filter _, ?_⟩
  rintro x hx _ hy rfl
  simp only [List.mem_filter, decide_eq_true_eq] at hx hy
  omega

/-! ## Candidates, ranked by class (R100, R102) -/

/-- The rows that the search from `p` may take. -/
abbrev Block.Candidate (e : Env) (lo hi : Nat) (p : RowId) (b : Block) (r : RowId) : Prop :=
  lo ≤ r.val ∧ r.val ≤ hi ∧ (e.row r).present = true ∧ (b.row r).cls ≠ 0 ∧ (b.row r).holder = none
    ∧ (b.row r).reservedBy = none ∧ (b.row r).tracker = .tracking ∧ (b.row r).locked = none
    ∧ (((b.row r).occupant = none ∧ (b.row r).reservation = none) ∨ r = p)

/-- Row `x` is taken before row `y`: by its class, and within a class by the search order (R102). -/
abbrev Block.TakenBefore (lo hi : Nat) (p : RowId) (b : Block) (x y : RowId) : Prop :=
  (b.row y).cls < (b.row x).cls ∨ ((b.row y).cls = (b.row x).cls ∧ sweepKey lo hi p x < sweepKey lo hi p y)

/-- The candidates of the rows `lo` to `hi`, in the order in which the search takes them (R102). -/
def ranked (e : Env) (b : Block) (lo hi : Nat) (p : RowId) : List RowId :=
  ([3, 2, 1] : List Urgency).flatMap fun c =>
    ((searchOrder lo hi p).filter fun r => b.candidate p r).filter fun r => inUrgencyMap e b c r

theorem searchRows_eq (e : Env) (b : Block) (p : RowId) (len : Nat) :
    searchRows e b p len = (ranked e b (searchRange e b p).1 (searchRange e b p).2 p).take len := rfl

theorem candidate_iff : b.candidate p r = true ↔ (b.row r).holder = none ∧ (b.row r).reservedBy = none
    ∧ (b.row r).tracker = .tracking ∧ (b.row r).locked = none
    ∧ (((b.row r).occupant = none ∧ (b.row r).reservation = none) ∨ r = p) := by
  simp only [Block.candidate, RowState.endFree, Bool.and_eq_true, Bool.or_eq_true, Option.isNone_iff_eq_none, beq_iff_eq]
  tauto

theorem inUrgencyMap_iff {c : Urgency} : inUrgencyMap e b c r = true ↔ (e.row r).present = true ∧ (b.row r).cls = c := by
  simp [inUrgencyMap]

/-- Each class but 0 is searched. -/
theorem mem_classes {c : Urgency} : c ∈ ([3, 2, 1] : List Urgency) ↔ c ≠ 0 := by
  revert c; decide

theorem mem_ranked : r ∈ ranked e b lo hi p ↔
    r ∈ searchOrder lo hi p ∧ b.candidate p r = true ∧ (e.row r).present = true ∧ (b.row r).cls ≠ 0 := by
  simp only [ranked, List.mem_flatMap, List.mem_filter, inUrgencyMap_iff, mem_classes]
  constructor
  · rintro ⟨c, hc, ⟨order, candidate⟩, present, rfl⟩
    exact ⟨order, candidate, present, hc⟩
  · rintro ⟨order, candidate, present, hc⟩
    exact ⟨_, hc, ⟨order, candidate⟩, present, rfl⟩

theorem mem_ranked_iff (bottom : lo ≤ p.val) (top : p.val ≤ hi) : r ∈ ranked e b lo hi p ↔ b.Candidate e lo hi p r := by
  rw [mem_ranked, mem_searchOrder bottom top, candidate_iff]
  tauto

theorem ranked_pairwise (bottom : lo ≤ p.val) (top : p.val ≤ hi) : (ranked e b lo hi p).Pairwise (b.TakenBefore lo hi p) := by
  rw [ranked, List.pairwise_flatMap]
  constructor
  · intro c _
    refine (((searchOrder_by_key bottom top).filter _).filter _).imp_of_mem fun {x y} hx hy hkey => .inr ⟨?_, hkey⟩
    rw [(inUrgencyMap_iff.mp (List.mem_filter.mp hx).2).2, (inUrgencyMap_iff.mp (List.mem_filter.mp hy).2).2]
  · have descending : ([3, 2, 1] : List Urgency).Pairwise (· > ·) := by decide
    refine descending.imp fun {c d} hlt x hx y hy => .inl ?_
    rw [(inUrgencyMap_iff.mp (List.mem_filter.mp hx).2).2, (inUrgencyMap_iff.mp (List.mem_filter.mp hy).2).2]
    exact hlt

theorem ranked_nodup (e : Env) (b : Block) (lo hi : Nat) (p : RowId) : (ranked e b lo hi p).Nodup := by
  refine List.nodup_flatMap.mpr ⟨fun c _ => ((searchOrder_nodup lo hi p).filter _).filter _, ?_⟩
  have distinct : ([3, 2, 1] : List Urgency).Pairwise (· ≠ ·) := by decide
  refine distinct.imp fun {c d} hne x hx hy => hne ?_
  rw [← (inUrgencyMap_iff.mp (List.mem_filter.mp hx).2).2, ← (inUrgencyMap_iff.mp (List.mem_filter.mp hy).2).2]

/-! ## The rows taken and their sweep (R102, R103) -/

/-- Of a list in some order the first `len` stand before every other one, and are `len` where there is another. -/
theorem take_complete {α : Type} {R : α → α → Prop} {l : List α} {len : Nat} {z : α} (ordered : l.Pairwise R) (mem : z ∈ l)
    (left : z ∉ l.take len) : (l.take len).length = len ∧ ∀ w ∈ l.take len, R w z := by
  rw [← List.take_append_drop len l] at ordered mem
  have later : z ∈ l.drop len := (List.mem_append.mp mem).resolve_left left
  have long := List.length_pos_of_mem later
  rw [List.length_drop] at long
  exact ⟨by rw [List.length_take]; omega, fun w hw => (List.pairwise_append.mp ordered).2.2 w hw z later⟩

theorem mem_sweepRows {len : Nat} : r ∈ sweepRows e b p len ↔ r ∈ searchRows e b p len := by
  have found : r ∈ searchRows e b p len → r ∈ searchOrder (searchRange e b p).1 (searchRange e b p).2 p :=
    fun h => (mem_ranked.mp (List.mem_of_mem_take (searchRows_eq e b p len ▸ h))).1
  simp only [sweepRows, List.mem_filter, List.contains_iff_mem]
  exact ⟨And.right, fun h => ⟨found h, h⟩⟩

theorem searchRows_nodup (e : Env) (b : Block) (p : RowId) (len : Nat) : (searchRows e b p len).Nodup :=
  (ranked_nodup e b _ _ p).sublist (List.take_sublist len _)

theorem sweepRows_nodup (e : Env) (b : Block) (p : RowId) (len : Nat) : (sweepRows e b p len).Nodup :=
  (searchOrder_nodup _ _ p).filter _

/-- Settles O28: the rows taken are the first of the candidates as they are ranked, and the sweep has them in search order. -/
theorem searchTakesCandidates : Obligations.SearchTakesCandidates := by
  unfold Obligations.SearchTakesCandidates
  intro e b p len lo hi taken candidate key before bottom top
  have ordered : (ranked e b lo hi p).Pairwise before := ranked_pairwise bottom top
  have member (r : RowId) : r ∈ ranked e b lo hi p ↔ candidate r := mem_ranked_iff bottom top
  refine ⟨fun r hr => (member r).mp (List.mem_of_mem_take hr), List.length_take_le _ _, searchRows_nodup e b p len,
    ordered.sublist (List.take_sublist len _), fun r hr left => take_complete ordered ((member r).mpr hr) left, ?_, ?_⟩
  · exact (List.perm_ext_iff_of_nodup (sweepRows_nodup e b p len) (searchRows_nodup e b p len)).mpr fun r => mem_sweepRows
  · exact (searchOrder_by_key bottom top).filter _

end Sys2Proof.Machine
end

section
/-! PROOF. A round that is handed its robot (R104 to R106, R110, R114): its entries, the stack that carries it, and the entry that is
started or SKIPPED. -/

namespace Sys2Proof.Machine

open Sys2Proof

variable {e : Env} {b c : Block} {k : RobotId} {p : RowId} {rd rd' : Round} {below : List RobotTask} {before after : List Entry}
  {x : Entry}

/-! ## Entries (R98, R104) -/

theorem Round.complete_iff : rd.complete = true ↔ ∀ y ∈ rd.entries, ¬ y.Open := by
  simp only [Round.complete, List.all_eq_true, Bool.not_eq_true', Bool.eq_false_iff, ne_eq, Entry.isOpen_iff]

theorem Round.complete_eq_false : rd.complete = false ↔ ∃ y ∈ rd.entries, y.Open := by
  simp only [Bool.eq_false_iff, ne_eq, Round.complete_iff, not_forall, not_not, exists_prop]

/-- A change that picks no entry. -/
theorem Round.mapEntries_none {which : Entry → Bool} {g : Entry → Entry} (none' : ∀ y ∈ rd.entries, which y = false) :
    rd.mapEntries which g = rd := by
  have same : (rd.entries.map fun y => if which y then g y else y) = rd.entries := by
    refine (List.map_congr_left fun y hy => ?_).trans (List.map_id _)
    rw [none' y hy]
    rfl
  rw [Round.mapEntries, same]

/-- A change that picks one entry. -/
theorem Round.mapEntries_one {which : Entry → Bool} {g : Entry → Entry} (entries : rd.entries = before ++ x :: after)
    (own : which x = true) (others : ∀ y ∈ before ++ after, which y = false) :
    rd.mapEntries which g = { rd with entries := before ++ g x :: after } := by
  have same {l : List Entry} (h : ∀ y ∈ l, which y = false) : (l.map fun y => if which y then g y else y) = l := by
    refine (List.map_congr_left fun y hy => ?_).trans (List.map_id _)
    rw [h y hy]
    rfl
  rw [Round.mapEntries, entries, List.map_append, List.map_cons, same fun y hy => others y (List.mem_append_left _ hy),
    same fun y hy => others y (List.mem_append_right _ hy), own]
  rfl

/-- The change of the one entry for a row. -/
theorem Round.mapEntries_row {g : Entry → Entry} (entries : rd.entries = before ++ x :: after)
    (only : ∀ y ∈ before ++ after, y.row ≠ x.row) :
    rd.mapEntries (fun y => y.row == x.row) g = { rd with entries := before ++ g x :: after } :=
  Round.mapEntries_one entries (beq_self_eq_true _) fun y hy => beq_eq_false_iff_ne.mpr (only y hy)

/-- The entry `x` is the one to start: it stands ACTIVE, or it is the first PENDING one (R104, step 3). -/
abbrev Entry.First (before after : List Entry) (x : Entry) : Prop :=
  (x.state = .active ∧ ∀ y ∈ before, y.state ≠ .active)
    ∨ (x.state = .pending ∧ (∀ y ∈ before, ¬ y.Open) ∧ ∀ y ∈ after, y.state ≠ .active)

theorem Entry.First.opened (first : x.First before after) : x.Open := first.symm.imp And.left And.left

theorem Round.nextEntry_first (entries : rd.entries = before ++ x :: after) (first : x.First before after) :
    rd.nextEntry = some x := by
  have find {st : EntryState} (own : x.state = st) (others : ∀ y ∈ before, y.state ≠ st) :
      rd.entries.find? (fun y => y.state == st) = some x := by
    rw [entries, List.find?_append, List.find?_eq_none.mpr fun y hy => by simpa using others y hy, Option.none_or,
      List.find?_cons_of_pos (by simpa using own)]
  unfold Round.nextEntry
  obtain ⟨active, others⟩ | ⟨pending, closed, others⟩ := first
  · rw [find active others]
  · have none' : rd.entries.find? (fun y => y.state == .active) = none := by
      refine List.find?_eq_none.mpr fun y hy => ?_
      rw [entries, List.mem_append, List.mem_cons] at hy
      obtain hy | rfl | hy := hy
      · simpa using fun active => closed y hy (.inr active)
      · simp [pending]
      · simpa using others y hy
    rw [none', find pending fun y hy hp => closed y hy (.inl hp)]

theorem Round.nextEntry_closed (closed : ∀ y ∈ rd.entries, ¬ y.Open) : rd.nextEntry = none := by
  have find {st : EntryState} (opens : ∀ y : Entry, y.state = st → y.Open) : rd.entries.find? (fun y => y.state == st) = none :=
    List.find?_eq_none.mpr fun y hy => by simpa using fun h => closed y hy (opens y h)
  rw [Round.nextEntry, find fun y => .inr, find fun y => .inl]

/-! ## The stack that carries the round (R98) -/

theorem setRound_top (tasks : ∀ t ∈ below, t.isRound = false) : setRound rd' (.round rd :: below) = .round rd' :: below := by
  refine congrArg (RobotTask.round rd' :: ·) ((List.map_congr_left fun t ht => ?_).trans (List.map_id _))
  rw [tasks t ht]
  rfl

theorem dropRound_top (tasks : ∀ t ∈ below, t.isRound = false) : dropRound (.round rd :: below) = below :=
  (List.filter_cons_of_neg (by simp [RobotTask.isRound])).trans (List.filter_eq_self.mpr fun t ht => by simp [tasks t ht])

/-- A round that is put back on its robot's stack stays there, or completes (R114). -/
theorem finishRound_stacked (top : (b.robot k).stack = .round rd :: below) (tasks : ∀ t ∈ below, t.isRound = false) :
    (b.modRobot k fun z => { z with stack := setRound rd' z.stack }).finishRound k =
      if rd'.complete then (b.modRobot k fun z => { z with stack := below, outcome := .roundDone }, [.giveTop k])
      else (b.modRobot k fun z => { z with stack := .round rd' :: below }, []) := by
  have top' : ((b.modRobot k fun z => { z with stack := setRound rd' z.stack }).robot k).stack = .round rd' :: below := by
    simp [top, setRound_top tasks]
  rw [finishRound_top top']
  split
  · rw [Block.modRobot_modRobot]
    refine congrArg (·, _) (Block.modRobot_congr ?_)
    dsimp only
    rw [top, setRound_top tasks, dropRound_top tasks]
  · exact congrArg (·, _) (Block.modRobot_congr (by rw [top, setRound_top tasks]))

/-! ## Handing the robot to its round (R104, R110) -/

/-- The entry's row was entered and left without a cleaning (R104, step 1). -/
abbrev Entry.Left (x : Entry) : Prop := x.state = .active ∧ x.entered = true

theorem Entry.left_iff : (x.state == .active && x.entered) = true ↔ x.Left := by simp

/-- An entry that was left is SKIPPED, and closes. -/
def Entry.abort (x : Entry) : Entry :=
  if x.Left then { x with state := .skipped, entered := false, reason := some .aborted } else x

theorem abort_eq (rd : Round) :
    rd.mapEntries (fun x => x.state == .active && x.entered) (fun x => x.settled .skipped (some .aborted)) =
      { rd with entries := rd.entries.map Entry.abort } := by
  refine congrArg (fun l => { rd with entries := l }) (List.map_congr_left fun x _ => ?_)
  exact if_congr Entry.left_iff rfl rfl

/-- Outside CALM the round is paused, the entries that were left being SKIPPED (R104, R110). -/
theorem handToRound_paused (at' : (b.robot k).IdleAt p) (top : (b.robot k).stack = .round rd :: below)
    (tasks : ∀ t ∈ below, t.isRound = false) (weather : b.weather ≠ .calm) (opened : ∃ x ∈ rd.entries, x.Open ∧ ¬ x.Left) :
    handToRound e k b =
      (some { rd with paused := true, entries := rd.entries.map Entry.abort },
        ((rd.entries.filter fun x => x.state == .active && x.entered).foldl (fun c x => c.unreserve x.row) b).modRobot k fun z =>
          { z with stack := .round { rd with paused := true, entries := rd.entries.map Entry.abort } :: below }, []) := by
  have round : (b.robot k).round = some rd := by simp [Robot.round, top]
  have on : (b.robot k).roundOnTop = true := by simp [Robot.roundOnTop, top, RobotTask.isRound]
  have going {paused : Bool} : ({ rd with paused := paused, entries := rd.entries.map Entry.abort } : Round).complete = false := by
    obtain ⟨x, mem, isOpen, stays⟩ := opened
    exact Round.complete_eq_false.mpr ⟨x, List.mem_map.mpr ⟨x, mem, if_neg stays⟩, isOpen⟩
  have top' := (StaysTasked.unreserve (k := k) Entry.row (rd.entries.filter fun x => x.state == .active && x.entered) b).stack.trans top
  unfold handToRound
  simp only [Robot.idleAt_iff.mpr at', round, on, if_true, abort_eq, going, Bool.false_eq_true, if_false, if_pos weather,
    finishRound_stacked top' tasks]
  rfl

/-- In CALM the robot's next entries are started (R104, steps 3 to 6), and the round stays on top of the stack, or completes. -/
theorem handToRound_starts {h : List HandOn} (at' : (b.robot k).IdleAt p) (top : (b.robot k).stack = .round rd :: below)
    (tasks : ∀ t ∈ below, t.isRound = false) (calm : b.weather = .calm) (unleft : ∀ y ∈ rd.entries, ¬ y.Left)
    (opened : ∃ y ∈ rd.entries, y.Open)
    (starts : startEntries e k p (rd.entries.length + 1) { rd with paused := false } b = (rd', c, h)) :
    handToRound e k b = (some rd',
      if rd'.complete then (c.modRobot k fun z => { z with stack := below, outcome := .roundDone }, h ++ [.giveTop k])
      else (c.modRobot k fun z => { z with stack := .round rd' :: below }, h)) := by
  have round : (b.robot k).round = some rd := by simp [Robot.round, top]
  have on : (b.robot k).roundOnTop = true := by simp [Robot.roundOnTop, top, RobotTask.isRound]
  have none' : ∀ y ∈ rd.entries, (y.state == .active && y.entered) = false := fun y hy =>
    Bool.eq_false_iff.mpr fun left => unleft y hy (Entry.left_iff.mp left)
  have still : (c.robot k).stack = .round rd :: below := by
    have stays := (startEntries_spec (e := e) (k := k) (p := p) (rd.entries.length + 1) { rd with paused := false } b).1.stack
    rw [starts] at stays
    exact stays.trans top
  have nothing : (rd.entries.filter fun x => x.state == .active && x.entered) = [] :=
    List.filter_eq_nil_iff.mpr fun y hy => by simp [none' y hy]
  unfold handToRound
  simp only [Robot.idleAt_iff.mpr at', round, on, if_true, Round.mapEntries_none none', nothing, List.foldl_nil,
    Round.complete_eq_false.mpr opened, Bool.false_eq_true, if_false, calm, ne_eq, not_true_eq_false, starts,
    finishRound_stacked still tasks]
  split <;> simp

/-! ## The entry that is started or SKIPPED (R104 to R106) -/

theorem RowState.ineligible_iff {y : RowState} :
    y.ineligible = true ↔ y.locked ≠ none ∨ y.stranded = true ∨ y.faultNoted = true ∨ y.tracker ≠ .tracking := by
  simp [RowState.ineligible, Option.isSome_iff_ne_none, or_assoc]

section

variable (entries : rd.entries = before ++ x :: after) (only : ∀ y ∈ before ++ after, y.row ≠ x.row)
  (first : x.First before after) (n : Nat)

include entries only

/-- With the one open entry SKIPPED, nothing is started any more. -/
theorem startEntries_closed (closed : ∀ y ∈ before ++ after, ¬ y.Open) (why : SkipReason) :
    startEntries e k p n (rd.skip x.row why) c =
      ({ rd with entries := before ++ x.settled .skipped (some why) :: after }, c, []) := by
  rw [Round.skip, Round.mapEntries_row entries only]
  cases n with
  | zero => rfl
  | succ n =>
    have done : ({ rd with entries := before ++ x.settled .skipped (some why) :: after } : Round).nextEntry = none := by
      refine Round.nextEntry_closed fun y hy => ?_
      rw [List.mem_append, List.mem_cons] at hy
      obtain hy | rfl | hy := hy
      · exact closed y (List.mem_append_left _ hy)
      · simp [Entry.Open, Entry.settled]
      · exact closed y (List.mem_append_right _ hy)
    simp only [startEntries, done]

include first

/-- An entry whose row is ineligible is SKIPPED (R104, step 4). -/
theorem startEntries_ineligible (closed : ∀ y ∈ before ++ after, ¬ y.Open) (bad : (b.row x.row).ineligible = true) :
    startEntries e k p (n + 1) rd b =
      ({ rd with entries := before ++ x.settled .skipped (some .ineligible) :: after }, b.unreserve x.row, []) := by
  simp only [startEntries, Round.nextEntry_first entries first, bad, if_true]
  exact startEntries_closed entries only n closed _

/-- An entry for the robot's own row is started by the claim (R105). -/
theorem startEntries_claims (good : (b.row x.row).ineligible = false) (own : x.row = p) (claims : enterCheck b k p = none) :
    startEntries e k p (n + 1) rd b =
      ({ rd with entries := before ++ { x with state := .active, entered := false } :: after }, b.claimRow e k p, []) := by
  subst own
  simp only [startEntries, Round.nextEntry_first entries first, good, Bool.false_eq_true, if_false, if_true, claims]
  rw [Round.activate, Round.mapEntries_row entries only]

/-- An entry for another row is started by the transfer (R106). -/
theorem startEntries_asks {u : ShuttleId} {tag : Tag} (good : (b.row x.row).ineligible = false) (other : x.row ≠ p)
    (asks : askTransfer e b .round k (.rowEnd x.row) = .ok (c, u, tag)) :
    startEntries e k p (n + 1) rd b =
      ({ rd with entries := before ++ { x with state := .active, entered := false } :: after }, c, [.offer u]) := by
  simp only [startEntries, Round.nextEntry_first entries first, good, Bool.false_eq_true, if_false, if_neg other, asks]
  rw [Round.activate, Round.mapEntries_row entries only]

/-- An entry whose transfer is refused is SKIPPED by the code of the refusal (R106). -/
theorem startEntries_refused {code : Code} (closed : ∀ y ∈ before ++ after, ¬ y.Open) (good : (b.row x.row).ineligible = false)
    (other : x.row ≠ p) (refused : askTransfer e b .round k (.rowEnd x.row) = .error code) :
    startEntries e k p (n + 1) rd b =
      ({ rd with entries := before ++ x.settled .skipped (some (refusedEntry code)) :: after }, b.unreserve x.row, []) := by
  simp only [startEntries, Round.nextEntry_first entries first, good, Bool.false_eq_true, if_false, if_neg other, refused]
  exact startEntries_closed entries only n closed _

end

theorem refusedEntry_eq (code : Code) : refusedEntry code =
    if code = .endBusy ∨ code = .noRoute then .endBusy else if code = .full then .queueFull else .ineligible := by
  cases code <;> rfl

/-- The claim of an eligible row at whose end the robot stands IDLE is admitted in CALM (R22). -/
theorem enterCheck_admits (at' : (b.robot k).IdleAt p) (calm : b.weather = .calm) (good : (b.row p).ineligible = false)
    (free : (b.row p).holder = none) (unreserved : (b.row p).reservedBy = none ∨ (b.row p).reservedBy = some k) :
    enterCheck b k p = none := by
  have eligible := RowState.ineligible_iff.not.mp (Bool.eq_false_iff.mp good)
  simp only [not_or, not_not] at eligible
  obtain ⟨unlocked, -, -, tracking⟩ := eligible
  simp [enterCheck, calm, unlocked, tracking, free, Robot.idleAt_iff.mpr at', RowState.reservedByOther_eq_false.mpr unreserved]

/-! ## What comes of the round -/

section

variable (at' : (b.robot k).IdleAt p) (top : (b.robot k).stack = .round rd :: below)
  (tasks : ∀ t ∈ below, t.isRound = false) (calm : b.weather = .calm) (unleft : ∀ y ∈ rd.entries, ¬ y.Left)
  (entries : rd.entries = before ++ x :: after) (only : ∀ y ∈ before ++ after, y.row ≠ x.row) (first : x.First before after)

include at' top tasks calm unleft entries first

/-- A round whose next entry is started stays on top of the stack. -/
theorem handToRound_active {h : List HandOn} {x' : Entry} (active : x'.state = .active)
    (starts : startEntries e k p (rd.entries.length + 1) { rd with paused := false } b =
      ({ rd with paused := false, entries := before ++ x' :: after }, c, h)) :
    handToRound e k b = (some { rd with paused := false, entries := before ++ x' :: after },
      c.modRobot k fun z => { z with stack := .round { rd with paused := false, entries := before ++ x' :: after } :: below },
      h) := by
  have opened : ∃ y ∈ rd.entries, y.Open := ⟨x, entries ▸ List.mem_append_right _ (List.mem_cons_self ..), first.opened⟩
  have going : ({ rd with paused := false, entries := before ++ x' :: after } : Round).complete = false :=
    Round.complete_eq_false.mpr ⟨x', List.mem_append_right _ (List.mem_cons_self ..), .inr active⟩
  rw [handToRound_starts at' top tasks calm unleft opened starts, going]
  rfl

/-- A round whose last open entry is SKIPPED completes, and the task below it is given the robot (R114). -/
theorem handToRound_skips (closed : ∀ y ∈ before ++ after, ¬ y.Open) {why : SkipReason}
    (starts : startEntries e k p (rd.entries.length + 1) { rd with paused := false } b =
      ({ rd with paused := false, entries := before ++ x.settled .skipped (some why) :: after }, b.unreserve x.row, [])) :
    handToRound e k b =
      (some { rd with paused := false, entries := before ++ x.settled .skipped (some why) :: after },
        (b.unreserve x.row).modRobot k fun z => { z with stack := below, outcome := .roundDone }, [.giveTop k]) := by
  have opened : ∃ y ∈ rd.entries, y.Open := ⟨x, entries ▸ List.mem_append_right _ (List.mem_cons_self ..), first.opened⟩
  have done : ({ rd with paused := false, entries := before ++ x.settled .skipped (some why) :: after } : Round).complete = true := by
    refine Round.complete_iff.mpr fun y hy => ?_
    rw [List.mem_append, List.mem_cons] at hy
    obtain hy | rfl | hy := hy
    · exact closed y (List.mem_append_left _ hy)
    · simp [Entry.Open, Entry.settled]
    · exact closed y (List.mem_append_right _ hy)
  rw [handToRound_starts at' top tasks calm unleft opened starts, done]
  rfl

include only

theorem handToRound_claims (good : (b.row x.row).ineligible = false) (own : x.row = p) (claims : enterCheck b k p = none) :
    let rd' : Round := { rd with paused := false, entries := before ++ { x with state := .active, entered := false } :: after }
    handToRound e k b =
      (some rd', (b.claimRow e k p).modRobot k fun z => { z with stack := .round rd' :: below }, []) :=
  handToRound_active at' top tasks calm unleft entries first rfl
    (startEntries_claims (rd := { rd with paused := false }) entries only first _ good own claims)

theorem handToRound_asks {u : ShuttleId} {tag : Tag} (good : (b.row x.row).ineligible = false) (other : x.row ≠ p)
    (asks : askTransfer e b .round k (.rowEnd x.row) = .ok (c, u, tag)) :
    let rd' : Round := { rd with paused := false, entries := before ++ { x with state := .active, entered := false } :: after }
    handToRound e k b = (some rd', c.modRobot k fun z => { z with stack := .round rd' :: below }, [.offer u]) :=
  handToRound_active at' top tasks calm unleft entries first rfl
    (startEntries_asks (rd := { rd with paused := false }) entries only first _ good other asks)

end

end Sys2Proof.Machine
end

section
/-! PROOF. REQUEST_WORK (R101 to R106): its checks, the round that is made with its rows reserved, and its first entry started; and
what a round does that is handed its robot. -/

namespace Sys2Proof.Machine

open Sys2Proof

variable {s : State} {f : Frame} {e : Env} {b c : Block} {k : RobotId} {p r d : RowId} {robot : Byte} {rows rest : List RowId}

/-! ## The checks (R101) -/

theorem workCheck_weather (weather : b.weather ≠ .calm) : workCheck e b k = .error .weather := if_pos weather

theorem workCheck_state (calm : b.weather = .calm)
    (held : (b.robot k).mode ≠ .idle ∨ (∀ p, (b.robot k).location ≠ .rowEnd p) ∨ (b.robot k).stack ≠ []) :
    workCheck e b k = .error .state := by
  unfold workCheck
  rw [if_neg (not_not_intro calm)]
  cases place : (b.robot k).idleAt with
  | none => rfl
  | some p =>
    obtain ⟨mode, location⟩ := Robot.idleAt_iff.mp place
    have stack : (b.robot k).stack ≠ [] := (held.resolve_left (not_not_intro mode)).resolve_left fun h => h p location
    exact if_pos stack

theorem workCheck_idle (calm : b.weather = .calm) (at' : (b.robot k).IdleAt p) (rests : (b.robot k).stack = []) :
    workCheck e b k = if (b.robot k).battery < e.params.chargeFloor then .error .battery else .ok p := by
  unfold workCheck
  rw [if_neg (not_not_intro calm), Robot.idleAt_iff.mpr at']
  exact if_neg (not_not_intro rests)

theorem execRequestWork_refused (taken : Taken .requestWork f s) (hk : robot.toNat = k.val) {code : Code}
    (check : workCheck s.env s.blk k = .error code) :
    exec (.requestWork f robot) s = .next (answered .requestWork f { code := code } s) := by
  unfold exec
  refine request_refused taken ?_
  rw [onRobot_inside hk, State.taken_env, State.taken_blk, check]

/-! ## The search (R100, R102) -/

theorem execRequestWork_noWork (taken : Taken .requestWork f s) (hk : robot.toNat = k.val)
    (check : workCheck s.env s.blk k = .ok p) (found : sweepRows s.env s.blk p s.env.params.roundLength = []) :
    exec (.requestWork f robot) s = .next (answered .requestWork f { code := .noWork } s) := by
  unfold exec
  refine request_refused taken ?_
  rw [onRobot_inside hk, State.taken_env, State.taken_blk, check]
  dsimp only
  rw [found]

theorem mem_sweepRows_candidate {len : Nat} (h : r ∈ sweepRows e b p len) :
    b.candidate p r = true ∧ (e.row r).present = true ∧ (b.row r).cls ≠ 0 :=
  (mem_ranked.mp (List.mem_of_mem_take (searchRows_eq e b p len ▸ mem_sweepRows.mp h))).2

/-! ## The round is made (R103) -/

/-- The entries of a new round. -/
abbrev Entry.fresh (st : EntryState) (r : RowId) : Entry := { row := r, state := st, entered := false, reason := none }

theorem foldl_reserve (k : RobotId) (rows : List RowId) (b : Block) :
    let c := rows.foldl (fun c r => c.modRow r fun x => { x with reservedBy := some k }) b
    c = { b with rows := c.rows } ∧ ∀ r, c.row r = { b.row r with
      reservedBy := if r ∈ rows then some k else (b.row r).reservedBy } := by
  induction rows generalizing b with
  | nil => exact ⟨rfl, fun r => by simp⟩
  | cons x xs ih =>
    obtain ⟨frame, row⟩ := ih (b.modRow x fun y => { y with reservedBy := some k })
    refine ⟨frame, fun r => ?_⟩
    rw [List.foldl_cons, row, Block.row_modRow]
    by_cases hx : x = r
    · subst hx
      simp
    · simp [hx, Ne.symm hx]

/-- What R103 makes: the rows are reserved and the round lies on the robot's stack. -/
theorem buildRound_spec (b : Block) (k : RobotId) (p : RowId) (rows : List RowId) :
    (∃ x y, b.buildRound k p rows = { b with rows := x, robots := y })
      ∧ (∀ r, (b.buildRound k p rows).row r =
          { b.row r with reservedBy := if r ∈ rows then some k else (b.row r).reservedBy })
      ∧ (b.buildRound k p rows).robot k =
          { b.robot k with
            stack := .round { start := p, paused := false, entries := rows.map (Entry.fresh .pending) } :: (b.robot k).stack }
      ∧ ∀ j, j ≠ k → (b.buildRound k p rows).robot j = b.robot j := by
  obtain ⟨frame, row⟩ := foldl_reserve k rows b
  unfold Block.buildRound
  dsimp only
  generalize rows.foldl (fun c r => c.modRow r fun x => { x with reservedBy := some k }) b = c at frame row
  have robot (j : RobotId) : c.robot j = b.robot j := by rw [frame]; rfl
  refine ⟨⟨c.rows, _, by rw [frame]; rfl⟩, row, ?_, fun j hj => ?_⟩
  · rw [Block.robot_modRobot, if_pos rfl, robot]
  · rw [Block.robot_modRobot, if_neg hj.symm, robot]

/-- A REQUEST_WORK that finds rows makes the round of them, and hands the robot to it. -/
theorem execRequestWork_started (taken : Taken .requestWork f s) (hk : robot.toNat = k.val)
    (check : workCheck s.env s.blk k = .ok p) (found : sweepRows s.env s.blk p s.env.params.roundLength = d :: rest)
    {rd : Round} {h : List HandOn} (hands : handToRound s.env k (s.blk.buildRound k p (d :: rest)) = (some rd, b, h))
    (ends : Handed.finish s.env (b, h) = some c) :
    exec (.requestWork f robot) s =
      .next { answered .requestWork f { code := .ok, payload := rd.bytes } s with blk := c } := by
  unfold exec
  refine request_finished taken ?_ ends
  rw [onRobot_inside hk, State.taken_env, State.taken_blk, check]
  dsimp only
  rw [found]
  dsimp only
  rw [hands]

/-! ## The transfer of origin ROUND (R106) -/

/-- Outside a storm the origin of a request plays no part in its checks (R66). -/
theorem transferCheck_origin {origin : Origin} {dest : Dest} (calm : b.storm = false) :
    transferCheck e b origin k dest = transferCheck e b .fleet k dest := by
  simp [transferCheck, calm]

/-! ## REQUEST_WORK (R101 to R106) -/

/-- The round that REQUEST_WORK answers with: its first entry is ACTIVE. -/
abbrev Round.started (p d : RowId) (rest : List RowId) : Round :=
  { start := p, paused := false, entries := Entry.fresh .active d :: rest.map (Entry.fresh .pending) }

section

variable (calm : b.weather = .calm) (at' : (b.robot k).IdleAt p) (rests : (b.robot k).stack = []) {len : Nat}
  (found : sweepRows e b p len = d :: rest) (agree : (b.row d).MarksAgree)

include found

theorem sweep_distinct : d ∉ rest := (List.nodup_cons.mp (found ▸ sweepRows_nodup e b p len)).1

theorem first_candidate : b.candidate p d = true ∧ (e.row d).present = true ∧ (b.row d).cls ≠ 0 :=
  mem_sweepRows_candidate (found ▸ List.mem_cons_self ..)

include agree

/-- The first row taken is eligible: its class is not 0 (R96). -/
theorem first_eligible : ((b.buildRound k p (d :: rest)).row d).ineligible = false := by
  obtain ⟨candidate, -, urgent⟩ := first_candidate found
  obtain ⟨-, -, tracking, unlocked, -⟩ := candidate_iff.mp candidate
  refine Bool.eq_false_iff.mpr (RowState.ineligible_iff.not.mpr ?_)
  rw [(buildRound_spec b k p (d :: rest)).2.1]
  rintro (h | h | h | h)
  · exact h unlocked
  · exact urgent (agree.1 (.inr (.inl h)))
  · exact urgent (agree.1 (.inr (.inr (.inr h))))
  · exact h tracking

include calm at' rests

/-- The new round claims its own row where that is the first of the sweep (R105). -/
theorem buildRound_claims (own : d = p) :
    handToRound e k (b.buildRound k p (d :: rest)) = (some (Round.started p d rest),
      ((b.buildRound k p (d :: rest)).claimRow e k p).modRobot k fun z =>
        { z with stack := [.round (Round.started p d rest)] }, []) := by
  have good := first_eligible (k := k) found agree
  obtain ⟨candidate, -, -⟩ := first_candidate found
  obtain ⟨free, -⟩ := candidate_iff.mp candidate
  have distinct := sweep_distinct found
  obtain ⟨⟨x, y, frame⟩, row, robot, -⟩ := buildRound_spec b k p (d :: rest)
  generalize b.buildRound k p (d :: rest) = c at *
  have weather : c.weather = .calm := by rw [frame]; exact calm
  have place : (c.robot k).IdleAt p := by rw [robot]; exact at'
  subst own
  have claims : enterCheck c k d = none := by
    refine enterCheck_admits place weather good ?_ (.inr ?_)
    · rw [row]; exact free
    · rw [row]; exact if_pos (List.mem_cons_self ..)
  have top := congrArg Robot.stack robot
  rw [rests] at top
  exact handToRound_claims (before := []) (x := Entry.fresh .pending d) place top (by simp) weather (by simp)
    rfl (by simpa using fun r hr (h : r = d) => distinct (h ▸ hr)) (.inr ⟨rfl, by simp, by simp⟩) good rfl claims

/-- The new round asks for a transfer where the first row of the sweep is another than its own (R106). -/
theorem buildRound_asks {u : ShuttleId} {tag : Tag} (other : d ≠ p) (via : (e.row p).shuttle = some u)
    (same : (e.row d).shuttle = some u) (untaken : (b.robot k).transfer = none) (up : (b.shuttle u).mode ≠ .faulted)
    (room : (b.shuttle u).queue.length < 8) (lowest : b.LowestFree tag) :
    handToRound e k (b.buildRound k p (d :: rest)) = (some (Round.started p d rest),
      ((b.buildRound k p (d :: rest)).accept .round k (.rowEnd d) (.rowEnd p) u tag).modRobot k fun z =>
        { z with stack := [.round (Round.started p d rest)] }, [.offer u]) := by
  have good := first_eligible (k := k) found agree
  obtain ⟨candidate, present, -⟩ := first_candidate found
  obtain ⟨free, unreserved, -, unlocked, ends⟩ := candidate_iff.mp candidate
  obtain ⟨empty, unclaimed⟩ := ends.resolve_right other
  have distinct := sweep_distinct found
  obtain ⟨⟨x, y, frame⟩, row, robot, -⟩ := buildRound_spec b k p (d :: rest)
  generalize b.buildRound k p (d :: rest) = c at *
  have weather : c.weather = .calm := by rw [frame]; exact calm
  have place : (c.robot k).IdleAt p := by rw [robot]; exact at'
  have shuttle (v : ShuttleId) : c.shuttle v = b.shuttle v := by rw [frame]; rfl
  have noStorm : c.storm = false := by simp [Block.storm, weather]
  have check : transferCheck e c .round k (.rowEnd d) = .ok (.rowEnd p, u, tag) := by
    rw [transferCheck_origin noStorm]
    refine transferCheck_accepts present noStorm ⟨place.1, place.2, via.symm⟩ ?_ ?_ ⟨?_, ?_⟩ ?_ ?_ ?_ ?_
    · rw [robot]; exact untaken
    · rw [Robot.OwnPlace, place.2]; simpa using Ne.symm other
    · rw [shuttle]; exact up
    · rintro _ ⟨⟩; exact same
    · rintro ⟨_, ⟨⟩, locked⟩; rw [row] at locked; exact locked unlocked
    · rw [Block.DestFree, row]
      exact ⟨empty, unclaimed, free, .inr (if_pos (List.mem_cons_self ..))⟩
    · rw [shuttle]; exact room
    · simpa only [Block.LowestFree, shuttle] using lowest
  have asks : askTransfer e c .round k (.rowEnd d) = .ok (c.accept .round k (.rowEnd d) (.rowEnd p) u tag, u, tag) := by
    rw [askTransfer, check]
    rfl
  have top := congrArg Robot.stack robot
  rw [rests] at top
  exact handToRound_asks (before := []) (x := Entry.fresh .pending d) place top (by simp) weather (by simp)
    rfl (by simpa using fun r hr (h : r = d) => distinct (h ▸ hr)) (.inr ⟨rfl, by simp, by simp⟩) good other asks

end

/-- Pausing a round releases the rows of the entries that were left, and no other (R99, R104). -/
theorem handToRound_pauses {rd : Round} {below : List RobotTask} (at' : (b.robot k).IdleAt p)
    (top : (b.robot k).stack = .round rd :: below) (tasks : ∀ t ∈ below, t.isRound = false) (weather : b.weather ≠ .calm)
    (opened : ∃ x ∈ rd.entries, x.Open ∧ ¬ x.Left) :
    let rd' : Round := { rd with paused := true, entries := rd.entries.map Entry.abort }
    ∃ c : Block, handToRound e k b = (some rd', c.modRobot k fun z => { z with stack := .round rd' :: below }, [])
      ∧ c = { b with rows := c.rows }
      ∧ ∀ r, c.row r =
          { b.row r with reservedBy := if ∃ x ∈ rd.entries, x.row = r ∧ x.Left then none else (b.row r).reservedBy } := by
  obtain ⟨frame, row⟩ := foldl_unreserve (rd.entries.filter fun x => x.state == .active && x.entered) b
  refine ⟨_, handToRound_paused at' top tasks weather opened, frame, fun r => ?_⟩
  have same : (∃ x ∈ rd.entries.filter fun x => x.state == .active && x.entered, x.row = r)
      ↔ ∃ x ∈ rd.entries, x.row = r ∧ x.Left := by
    simp only [List.mem_filter, Entry.left_iff]
    exact exists_congr fun x => and_assoc.trans (and_congr_right fun _ => and_comm)
  rw [row]
  exact congrArg (fun o => { b.row r with reservedBy := o }) (if_congr same rfl rfl)

/-- Settles O29: a new round is a round that is handed its robot, and its first row is eligible. -/
theorem requestWorkStartsARound : Obligations.RequestWorkStartsARound := by
  unfold Obligations.RequestWorkStartsARound
  constructor
  · intro f robot k s taken hk z answer
    refine ⟨fun weather => execRequestWork_refused taken hk (workCheck_weather weather),
      fun calm held => execRequestWork_refused taken hk (workCheck_state calm held), fun p calm idle place rests => ?_⟩
    have at' : (s.blk.robot k).IdleAt p := ⟨idle, place⟩
    have check := workCheck_idle (e := s.env) calm at' rests
    refine ⟨fun low => execRequestWork_refused taken hk (check.trans (if_pos low)), fun charged none' => ?_, ?_⟩
    · exact execRequestWork_noWork taken hk (check.trans (if_neg (not_lt.mpr charged))) none'
    · intro d rest charged found agree entry rd reply
      replace check := check.trans (if_neg (not_lt.mpr charged))
      refine ⟨fun own => ?_, fun u tag other via same untaken up room lowest busy => ?_⟩
      · have hands := buildRound_claims (e := s.env) calm at' rests found agree own
        have started := execRequestWork_started taken hk check found hands (finish_nil ..)
        obtain ⟨⟨x, y, frame⟩, row, robot, others⟩ := buildRound_spec s.blk k p (d :: rest)
        generalize s.blk.buildRound k p (d :: rest) = c at *
        refine ⟨_, started, by subst frame; rfl, ?_, fun j hj => ?_, ?_, fun r hr => ?_⟩
        · simp [Block.claimRow, robot, z, rd, entry]
        · simp [Block.claimRow, others j hj, hj.symm]
        · simp [Block.claimRow, row, own]
        · simp [Block.claimRow, row, own, hr, hr.symm]
      · have hands := buildRound_asks (e := s.env) calm at' rests found agree other via same untaken up room lowest
        have occupied := Block.accept_occupied (b := s.blk.buildRound k p (d :: rest)) (k := k) (dest := .rowEnd d)
          (origin := .round) (source := .rowEnd p) (tag := tag) (u := u)
        have started (busy : (s.blk.buildRound k p (d :: rest)).Occupied u) :=
          execRequestWork_started taken hk check found hands (finish_occupied (occupied busy))
        obtain ⟨⟨x, y, frame⟩, row, robot, others⟩ := buildRound_spec s.blk k p (d :: rest)
        generalize s.blk.buildRound k p (d :: rest) = c at *
        refine ⟨_, started (by subst frame; exact busy), by subst frame; rfl, ?_, fun j hj => ?_, fun r => ?_⟩
        · simp [Block.accept, Block.reserveDest, robot, z, rd, entry]
        · simp [Block.accept, Block.reserveDest, others j hj, hj.symm]
        · by_cases hr : r = d
          · simp [Block.accept, Block.reserveDest, row, hr]
          · simp [Block.accept, Block.reserveDest, row, hr, Ne.symm hr]
  · intro e b k p rd below idle place top tasks left stacked
    have at' : (b.robot k).IdleAt p := ⟨idle, place⟩
    refine ⟨fun weather opened => ?_, fun before x after calm entries only unleft first => ?_⟩
    · exact handToRound_pauses at' top tasks weather opened
    · intro r with' started skipped y ineligible
      have skips {why : SkipReason} (closed : ∀ y ∈ before ++ after, ¬ y.Open) :=
        handToRound_skips (e := e) at' top tasks calm unleft entries first closed (why := why)
      refine ⟨fun bad closed => ?_, fun good own free unreserved => ?_, fun c u tag good other asks => ?_,
        fun code good other refused closed => ?_⟩
      · exact skips closed
          (startEntries_ineligible (rd := { rd with paused := false }) entries only first _ closed (RowState.ineligible_iff.mpr bad))
      · have eligible := Bool.eq_false_iff.mpr (RowState.ineligible_iff.not.mpr good)
        have own' : x.row = p := own
        subst own'
        exact handToRound_claims at' top tasks calm unleft entries only first eligible rfl
          (enterCheck_admits at' calm eligible free unreserved)
      · exact handToRound_asks at' top tasks calm unleft entries only first
          (Bool.eq_false_iff.mpr (RowState.ineligible_iff.not.mpr good)) other asks
      · have starts := startEntries_refused (rd := { rd with paused := false }) entries only first rd.entries.length closed
          (Bool.eq_false_iff.mpr (RowState.ineligible_iff.not.mpr good)) other refused
        rw [refusedEntry_eq] at starts
        exact skips closed starts

end Sys2Proof.Machine
end

section
/-! PROOF. CLEAN_DONE (R111), CLEAN_ABORT (R113) and the failed transfer of origin ROUND (R107): the round entry that is settled, and
the round's completion (R114). -/

namespace Sys2Proof.Machine

open Sys2Proof

variable {s : State} {f : Frame} {e : Env} {b c : Block} {k : RobotId} {u : ShuttleId} {r d : RowId} {robot : Byte}
  {rd rd' : Round} {st : EntryState} {why : Option SkipReason} {which : Entry → Bool}

/-! ## The stack with the round changed (R98) -/

theorem Robot.round_setRound (x : Robot) : ({ x with stack := setRound rd' x.stack } : Robot).round = x.round.map fun _ => rd' := by
  unfold Robot.round
  dsimp only
  induction x.stack with
  | nil => rfl
  | cons t ts ih =>
    cases t with
    | round y => rfl
    | charge | park => exact ih

theorem Robot.roundOnTop_eq (x : Robot) : x.roundOnTop = x.stack.head?.any RobotTask.isRound := by
  unfold Robot.roundOnTop
  cases x.stack <;> rfl

theorem Robot.roundOnTop_setRound (x : Robot) : ({ x with stack := setRound rd' x.stack } : Robot).roundOnTop = x.roundOnTop := by
  unfold Robot.roundOnTop
  cases x.stack with
  | nil => rfl
  | cons t ts => cases t <;> rfl

/-! ## The entry that is settled -/

theorem Round.mapEntries_eq {P : Entry → Prop} [DecidablePred P] (picks : ∀ y, which y = true ↔ P y) (g : Entry → Entry) :
    rd.mapEntries which g = { rd with entries := rd.entries.map fun y => if P y then g y else y } :=
  congrArg (fun l => { rd with entries := l }) (List.map_congr_left fun y _ => if_congr (picks y) rfl rfl)

theorem settleEntry_roundless (round : (b.robot k).round = none) : b.settleEntry k r which st why = (b, []) := by
  unfold Block.settleEntry
  rw [round]

theorem settleEntry_absent (round : (b.robot k).round = some rd) (absent : ∀ y ∈ rd.entries, ¬ (y.row = r ∧ which y = true)) :
    b.settleEntry k r which st why = (b, []) := by
  unfold Block.settleEntry
  rw [round]
  exact if_neg (by simpa using absent)

/-- The round with the entry settled that `which` admits. -/
abbrev Round.settleAt (r : RowId) (which : Entry → Bool) (st : EntryState) (why : Option SkipReason) (rd : Round) : Round :=
  rd.mapEntries (fun y => y.row == r && which y) fun y => y.settled st why

/-- The entry, the row's reservation, and the round's completion (R99, R114). -/
theorem settleEntry_found (round : (b.robot k).round = some rd) (found : ∃ y ∈ rd.entries, y.row = r ∧ which y = true) :
    b.settleEntry k r which st why =
      if (rd.settleAt r which st why).complete then
        ((b.unreserve r).modRobot k fun z => { z with stack := dropRound z.stack, outcome := .roundDone },
          if (b.robot k).roundOnTop then [.giveTop k] else [])
      else ((b.unreserve r).modRobot k fun z => { z with stack := setRound (rd.settleAt r which st why) z.stack }, []) := by
  have any : (rd.entries.any fun y => y.row == r && which y) = true := by simpa using found
  unfold Block.settleEntry
  simp only [round, any, if_true, Round.settleAt]
  generalize rd.mapEntries (fun y => y.row == r && which y) (fun y => y.settled st why) = rd'
  have record : (((b.modRobot k fun z => { z with stack := setRound rd' z.stack }).unreserve r).robot k) =
      { b.robot k with stack := setRound rd' (b.robot k).stack } := by simp [Block.unreserve]
  unfold Block.finishRound
  rw [record, Robot.round_setRound, round, Robot.roundOnTop_setRound, Option.map_some]
  dsimp only
  split
  · refine congrArg (·, _) ?_
    rw [Block.unreserve, Block.modRobot_modRow, Block.modRobot_modRobot]
    exact Block.modRobot_congr (by simp only [dropRound_setRound])
  · rfl

/-- A robot that does not stand IDLE at a row end is given no task by the completion of its round (R59, R114). -/
theorem settleEntry_finish (elsewhere : ∀ p, ¬ (b.robot k).IdleAt p) :
    Handed.finish e (b.settleEntry k r which st why) = some (b.settleEntry k r which st why).1 := by
  obtain round | ⟨rd, round⟩ := (b.robot k).round.eq_none_or_eq_some
  · rw [settleEntry_roundless round]
    exact finish_nil e b
  by_cases found : ∃ y ∈ rd.entries, y.row = r ∧ which y = true
  · rw [settleEntry_found round found]
    split
    · split
      · refine (Runs.single rfl ?_).finish (n := 1) (by omega)
        refine (giveTop_nothing (.inl ?_)).trans (congrArg (_, ·) (if_neg ?_))
        · simpa [Block.unreserve] using elsewhere
        · rintro ⟨-, p, at'⟩
          exact elsewhere p (by simpa [Block.unreserve] using at')
      · exact finish_nil ..
    · exact finish_nil ..
  · rw [settleEntry_absent round fun y mem picked => found ⟨y, mem, picked⟩]
    exact finish_nil e b

/-! ## CLEAN_DONE and CLEAN_ABORT (R111, R113) -/

theorem Robot.ridingOn_iff {x : Robot} : x.ridingOn = some r ↔ x.mode = .onRow ∧ x.location = .onRow r :=
  ⟨Robot.ridingOn_some, fun ⟨mode, location⟩ => by simp [Robot.ridingOn, mode, location]⟩

theorem Robot.ridingOn_none {x : Robot} (h : x.mode ≠ .onRow ∨ ∀ r, x.location ≠ .onRow r) : x.ridingOn = none := by
  refine Option.eq_none_iff_forall_ne_some.mpr fun r riding => ?_
  obtain ⟨mode, location⟩ := Robot.ridingOn_iff.mp riding
  exact h.elim (· mode) (· r location)

theorem riding_elsewhere {x : Robot} (riding : x.ridingOn = some r) : ∀ p, ¬ x.IdleAt p := by
  rintro p ⟨idle, -⟩
  cases idle.symm.trans (Robot.ridingOn_iff.mp riding).1

theorem execCleanDone_refused (taken : Taken .cleanDone f s) (hk : robot.toNat = k.val)
    (off : (s.blk.robot k).ridingOn = none) :
    exec (.cleanDone f robot) s = .next (answered .cleanDone f { code := .state } s) := by
  unfold exec
  refine request_refused taken ?_
  rw [onRobot_inside hk, State.taken_blk, off]

theorem execCleanAbort_refused (taken : Taken .cleanAbort f s) (hk : robot.toNat = k.val)
    (off : (s.blk.robot k).ridingOn = none) :
    exec (.cleanAbort f robot) s = .next (answered .cleanAbort f { code := .state } s) := by
  unfold exec
  refine request_refused taken ?_
  rw [onRobot_inside hk, State.taken_blk, off]

theorem execCleanAbort_settles (taken : Taken .cleanAbort f s) (hk : robot.toNat = k.val)
    (riding : (s.blk.robot k).ridingOn = some r) :
    exec (.cleanAbort f robot) s = .next { answered .cleanAbort f { code := .ok } s with
      blk := (s.blk.settleEntry k r Entry.isOpen .skipped (some .aborted)).1 } := by
  unfold exec
  refine request_finished taken ?_ (settleEntry_finish (riding_elsewhere riding))
  rw [onRobot_inside hk, State.taken_blk, riding]

theorem execCleanDone_settles (taken : Taken .cleanDone f s) (hk : robot.toNat = k.val)
    (riding : (s.blk.robot k).ridingOn = some r) :
    exec (.cleanDone f robot) s = .next { answered .cleanDone f { code := .ok } s with
      env := s.env.modRow r (RowData.cleaned s.env)
      blk := ((s.blk.modRow r fun x => { x with cls := 0 }).settleEntry k r Entry.isOpen .done none).1 } := by
  have ends := settleEntry_finish (e := s.env.modRow r (RowData.cleaned s.env)) (b := s.blk.modRow r fun x => { x with cls := 0 })
    (k := k) (r := r) (which := Entry.isOpen) (st := .done) (why := none) (riding_elsewhere riding)
  unfold exec
  refine (request_answered taken ?_).trans (congrArg Host.Outcome.next (answered_env_blk ..))
  rw [onRobot_inside hk, State.taken_blk, riding]
  show Option.map _ (Handed.finish ((s.taken f).env.modRow r (RowData.cleaned (s.taken f).env)) _) = _
  rw [State.taken_env, ends]
  rfl

/-- What becomes of a robot's round, and of the row, when its open entry for the row is settled. -/
theorem settleEntry_block {P : Entry → Prop} [DecidablePred P] (round : (b.robot k).round = some rd)
    (picks : ∀ y, (y.row = r ∧ which y = true) ↔ P y) :
    let rd' : Round := { rd with entries := rd.entries.map fun y => if P y then y.settled st why else y }
    (b.settleEntry k r which st why).1 =
      if ∃ y ∈ rd.entries, P y then
        (b.modRow r fun y => { y with reservedBy := none }).modRobot k fun w =>
          { w with
            stack := if ∀ y ∈ rd'.entries, ¬ y.Open then w.stack.filter (fun t => !t.isRound) else setRound rd' w.stack
            outcome := if ∀ y ∈ rd'.entries, ¬ y.Open then .roundDone else w.outcome }
      else b := by
  intro rd'
  have settled : rd.settleAt r which st why = rd' := Round.mapEntries_eq (fun y => by simpa using picks y) _
  split
  · next found =>
    rw [settleEntry_found round (by simpa only [picks] using found), settled]
    by_cases done : ∀ y ∈ rd'.entries, ¬ y.Open
    · simp only [if_pos (Round.complete_iff.mpr done), if_pos done]
      rfl
    · simp only [if_neg (Round.complete_iff.not.mpr done), if_neg done]
      rfl
  · next absent =>
    rw [settleEntry_absent round fun y mem picked => absent ⟨y, mem, (picks y).mp picked⟩]

/-! ## The failed transfer of origin ROUND (R107) -/

variable {why' : FailReason}

/-- The reason with which the entry of a failed transfer is SKIPPED (R107). -/
def FailReason.skip (why : FailReason) : SkipReason := if why = .destLocked then .ineligible else .endBusy

theorem settleFailed_storm (round : (b.robot k).round = some rd) :
    b.settleFailed k (.rowEnd d) .storm =
      (b.modRobot k fun z => { z with stack := setRound (rd.settleAt d (fun y => y.state == .active) .pending none) z.stack },
        []) := by
  simp only [Block.settleFailed, round]

theorem settleFailed_skips (other : why' ≠ .storm) :
    b.settleFailed k (.rowEnd d) why' = b.settleEntry k d (fun y => y.state == .active) .skipped (some why'.skip) := by
  cases why' with
  | storm => exact absurd rfl other
  | shuttleTimeout | shuttleFault | destLocked | lost | link => rfl

/-- A failed transfer of origin ROUND is the round's to take (R107). -/
theorem failHandOn_round {t : Transfer} (origin : t.origin = .round) (round : (b.robot t.robot).round = some rd)
    (other : why' ≠ .storm) :
    b.failHandOn t why' =
      ((b.settleFailed t.robot t.dest why').1, (b.settleFailed t.robot t.dest why').2 ++ [.handRound t.robot]) := by
  simp only [Block.failHandOn, origin, round, if_neg other]

/-! ## The step expiry of a transfer of origin ROUND (R75, R76) -/

theorem handToRound_elsewhere (elsewhere : ∀ p, ¬ (b.robot k).IdleAt p) : handToRound e k b = (none, b, []) := by
  simp only [handToRound, Robot.idleAt_none.mpr elsewhere]

/-- The round with the ACTIVE entry of a failed transfer's destination SKIPPED (R107). -/
abbrev Round.failAt (d : RowId) (why : FailReason) (rd : Round) : Round :=
  { rd with
    entries := rd.entries.map fun y =>
      if y.row = d ∧ y.state = .active then { y with state := .skipped, entered := false, reason := some why.skip } else y }

/-- A round that keeps an open entry waits for its robot (R107). -/
theorem settleFailed_waits (stack : (b.robot k).stack = [.round rd]) (active : ∃ y ∈ rd.entries, y.row = d ∧ y.state = .active)
    (opened : ∃ y ∈ rd.entries, y.Open ∧ ¬ (y.row = d ∧ y.state = .active)) (other : why' ≠ .storm) :
    b.settleFailed k (.rowEnd d) why' =
      ((b.unreserve d).modRobot k fun z => { z with stack := [.round (rd.failAt d why')] }, []) := by
  have round : (b.robot k).round = some rd := by simp [Robot.round, stack]
  have settled : rd.settleAt d (fun y => y.state == .active) .skipped (some why'.skip) = rd.failAt d why' :=
    Round.mapEntries_eq (fun y => by simp) _
  have going : (rd.failAt d why').complete = false := by
    obtain ⟨y, mem, isOpen, stays⟩ := opened
    exact Round.complete_eq_false.mpr ⟨y, List.mem_map.mpr ⟨y, mem, if_neg stays⟩, isOpen⟩
  rw [settleFailed_skips other, settleEntry_found round (by simpa using active), settled, going]
  have still : ((b.unreserve d).robot k).stack = [.round rd] := stack
  refine congrArg (·, _) (Block.modRobot_congr ?_)
  rw [still, setRound_top (by simp)]

section

variable {t : Transfer} {x : RunStep} {rest : List Transfer}

theorem stepFailed_robot (b : Block) : (b.stepFailed u t x why' rest).robot t.robot =
    { b.robot t.robot with
      transfer := none, outcome := .transferFailed why'
      mode := if ¬ (x = .moveToDest ∨ x = .unloading) ∧ (b.robot t.robot).mode = .waitTransfer then .idle
        else (b.robot t.robot).mode
      location := if x = .moveToDest ∨ x = .unloading then .carried u else (b.robot t.robot).location
      inGarage := if x = .moveToDest ∨ x = .unloading then false else (b.robot t.robot).inGarage
      order := if x = .moveToDest ∨ x = .unloading then .attend else (b.robot t.robot).order } := by
  rw [Block.stepFailed, Block.robot_modRobot, if_pos rfl, destReleased_robot]
  rfl

/-- An event that makes the shuttle FAULTED which carries the robot of a ROUND transfer (R75, R76): the entry is SKIPPED, and the
round waits for its robot, which is left on the shuttle. -/
theorem finish_faulted_skips {before after : List Transfer} (cause : ShuttleCause) (other : why' ≠ .storm)
    (current : (b.shuttle u).current = some t.tag) (queue : (b.shuttle u).queue = before ++ t :: after)
    (unique : ∀ y ∈ before ++ after, y.tag ≠ t.tag) (running : t.step = .running x)
    (moving : x = .moveToDest ∨ x = .unloading) (origin : t.origin = .round) (dest : t.dest = .rowEnd d)
    (stack : (b.robot t.robot).stack = [.round rd]) (active : ∃ y ∈ rd.entries, y.row = d ∧ y.state = .active)
    (opened : ∃ y ∈ rd.entries, y.Open ∧ ¬ (y.row = d ∧ y.state = .active)) :
    Handed.finish e ((b.faultShuttle u cause).failTransfer u t why') =
      some ((((b.shuttleFaulted u cause).stepFailed u t x why' (before ++ after)).unreserve d).modRobot t.robot fun z =>
        { z with stack := [.round (rd.failAt d why')] }) := by
  have shuttle := shuttleFaulted_shuttle b u cause
  have left := filter_tag_ne (queue := ((b.shuttleFaulted u cause).shuttle u).queue) (by rw [shuttle]; exact queue) unique
  have source : (x = .moveToSource ∨ x = .loading) → ∃ r, t.source = .rowEnd r := by
    obtain rfl | rfl := moving <;> simp
  have robot := stepFailed_robot (u := u) (t := t) (x := x) (why' := why') (rest := before ++ after) (b.shuttleFaulted u cause)
  have down := stepFailed_shuttle (t := t) (x := x) (why := why') (b.shuttleFaulted u cause) u (before ++ after)
  rw [faultShuttle_eq, Block.failTransfer, failParts_running running (by rw [shuttle]; exact current) left source]
  generalize (b.shuttleFaulted u cause).stepFailed u t x why' (before ++ after) = c at robot down
  have stack' : (c.robot t.robot).stack = [.round rd] := by rw [robot]; exact stack
  rw [failHandOn_round (rd := rd) origin (by simp [Robot.round, stack']) other, dest, settleFailed_waits stack' active opened other]
  refine ((Runs.single (c := (c.unreserve d).modRobot t.robot _) rfl ?_).append (Runs.offer_passed (.inr (occupied_faulted ?_)))).finish
    (n := 2) (by omega)
  · show (handToRound _ _ _).2 = _
    rw [handToRound_elsewhere]
    rintro p ⟨-, place⟩
    have carried : (c.robot t.robot).location = .carried u := by rw [robot]; exact if_pos moving
    simp [Block.unreserve, carried] at place
  · show (c.shuttle u).mode = .faulted
    rw [down, shuttle]

end

/-- Settles O30: each of the three results settles one entry of the robot's round, and the round completes or waits. -/
theorem cleaningResults : Obligations.CleaningResults := by
  unfold Obligations.CleaningResults
  refine ⟨fun f robot k s hk => ?_, fun b k d rd round => ?_, ?_⟩
  · intro z openAt settled
    refine ⟨fun taken off => execCleanDone_refused taken hk (Robot.ridingOn_none off),
      fun taken off => execCleanAbort_refused taken hk (Robot.ridingOn_none off), fun r mode location => ?_⟩
    have riding : (s.blk.robot k).ridingOn = some r := Robot.ridingOn_iff.mpr ⟨mode, location⟩
    have settles {b : Block} (same : b.robot k = z) (st : EntryState) (why : Option SkipReason) :
        (b.settleEntry k r Entry.isOpen st why).1 = settled r st why b := by
      dsimp only [settled]
      cases round : z.round with
      | none => rw [settleEntry_roundless (by rw [same]; exact round)]
      | some rd =>
        refine (settleEntry_block (P := openAt r) (by rw [same]; exact round) fun y => ?_).trans ?_
        · exact and_congr_right fun _ => Entry.isOpen_iff y
        · simp only [Entry.Open, not_or]
          rfl
    refine ⟨fun taken => ?_, fun taken => ?_⟩
    · rw [execCleanDone_settles taken hk riding,
        settles (b := s.blk.modRow r fun x => { x with cls := 0 }) rfl]
      rfl
    · rw [execCleanAbort_settles taken hk riding, settles rfl]
  · intro x at' settle keeps
    have picks (y : Entry) : (y.row == d && y.state == .active) = true ↔ at' y := by simp [at']
    have settled (st : EntryState) (why : Option SkipReason) :
        rd.settleAt d (fun y => y.state == .active) st why = settle st why := Round.mapEntries_eq picks _
    refine ⟨?_, fun absent why other => ?_, fun why other found => ?_⟩
    · rw [settleFailed_storm round, settled]
    · rw [settleFailed_skips other]
      exact settleEntry_absent round fun y mem picked => absent y mem (by simpa [at'] using picked)
    · intro rd' c
      rw [settleFailed_skips other, settleEntry_found round (by simpa [at'] using found), settled, Robot.roundOnTop_eq]
      refine ⟨fun opened => ?_, fun closed => ?_⟩
      · exact if_neg (Bool.eq_false_iff.mp (Round.complete_eq_false.mpr opened))
      · refine (if_pos (Round.complete_iff.mpr closed)).trans (congrArg (·, _) ?_)
        refine Eq.trans ?_ (Block.modRobot_modRobot (b.unreserve d) k (fun z => { z with stack := setRound rd' z.stack }) _).symm
        exact Block.modRobot_congr rfl
  · rintro u s before after t x d rd up due current queue unique running moving origin dest stack active other b
    refine expiry_due up due ?_
    rw [shuttleStepExpired]
    simp only [Block.cancel_shuttle, current]
    have record : (((s.blk.cancel (.shuttleStep u)).faultShuttle u .timeout).shuttle u).record t.tag = some t := by
      rw [faultShuttle_record]
      exact record_split queue unique
    rw [Block.failTag, record]
    dsimp only
    rw [finish_faulted_skips (b := s.blk.cancel (.shuttleStep u)) .timeout (by simp) current queue unique running moving origin dest
      stack active other, stepFailed_cancel]
    rfl

end Sys2Proof.Machine
end

section
/-! PROOF. OUTPUT REPORT (R118, R119): its checks in their order, and the record that takes a free slot. CALIBRATE ROW (R134). -/

namespace Sys2Proof.Machine

open Sys2Proof

variable {s : State} {f : Frame} {t : BitVec 16} {n : Byte} {pairs : List (RowId × BitVec 16)} {c : Code}

/-! ## Bytes of a reply (R186) -/

theorem bytesOf_two (n : Nat) : bytesOf 2 n = [BitVec.ofNat 8 (n / 256), BitVec.ofNat 8 n] := by
  simp [bytesOf, byteOf]

theorem flagByte_decide (p : Prop) [Decidable p] : flagByte (decide p) = if p then 1 else 0 := by
  simp [flagByte]

/-! ## The checks of a report (R118) -/

/-- The count of pairs is in its range, and the length of the request agrees with it (R118, check 2). -/
def Sized (f : Frame) (n : Byte) : Prop := 1 ≤ n.toNat ∧ n.toNat ≤ 64 ∧ f.len.toNat = 5 + 3 * n.toNat

theorem State.slotFree_iff (s : State) : s.slotFree = true ↔ s.inFlight = none ∨ s.waiting = none := by
  simp [State.slotFree]

@[simp] theorem State.taken_slotFree (s : State) (f : Frame) : (s.taken f).slotFree = s.slotFree := by
  simp [State.slotFree]

theorem reportCheck_taken : reportCheck f t n pairs (s.taken f) = reportCheck f t n pairs s := by
  simp only [reportCheck, State.taken_slotFree, State.taken_freePlaces]

theorem reportCheck_unsized (bad : ¬ Sized f n) : reportCheck f t n pairs s = some .badValue := by
  refine if_pos ?_
  unfold Sized at bad
  omega

theorem reportCheck_sized (sized : Sized f n) (count : pairs.length = n.toNat) :
    reportCheck f t n pairs s =
      if t = 0 then some .badValue else if s.slotFree = false ∨ s.freePlaces .plant < 2 then some .busy else none := by
  obtain ⟨least, most, len⟩ := sized
  exact if_neg (by omega)

/-! ## The record of an accepted report (R119) -/

theorem takeSlot_eq (s : State) (x : Report) :
    s.takeSlot x = { s with
      inFlight := if s.inFlight = none then some x else s.inFlight
      waiting := if s.inFlight = none then s.waiting else some x } := by
  unfold State.takeSlot
  cases s.inFlight <;> rfl

/-- A reply and a change of the report slots commute. -/
theorem answered_reports (q : Request) (f : Frame) (a : Answer) (s : State) (x y : Option Report) :
    ({ s.taken f with inFlight := x, waiting := y }).reply f q.kind a =
      { answered q f a s with inFlight := x, waiting := y } := by
  unfold answered State.reply
  cases f.port <;> rfl

theorem execOutputReport_refused {pref : BitVec 16} (taken : Taken .outputReport f s)
    (check : reportCheck f t n pairs s = some c) :
    exec (.outputReport f pref t n pairs) s = .next (answered .outputReport f { code := c } s) := by
  unfold exec
  refine request_refused taken ?_
  rw [reportCheck_taken, check]

theorem execOutputReport_accepted {pref : BitVec 16} (taken : Taken .outputReport f s)
    (check : reportCheck f t n pairs s = none) :
    exec (.outputReport f pref t n pairs) s = .next
      { answered .outputReport f
          { code := .accepted, payload := bytesOf 2 (usedT t) ++ [flagByte (decide (900 < t.toNat))] } s with
        inFlight := if s.inFlight = none then some (newReport f.tag pref t pairs) else s.inFlight
        waiting := if s.inFlight = none then s.waiting else some (newReport f.tag pref t pairs) } := by
  unfold exec
  refine (request_answered taken ?_).trans (congrArg _ (answered_reports ..))
  rw [reportCheck_taken, check]
  dsimp only
  rw [takeSlot_eq, State.taken_inFlight, State.taken_waiting]

/-- Settles O41: each check is one branch of `reportCheck`, and a report that passes them takes a slot (`takeSlot_eq`). -/
theorem outputReportIsAccepted : Obligations.OutputReportIsAccepted := by
  unfold Obligations.OutputReportIsAccepted
  intro f pref t n pairs s taken wf sized room answer
  have checked (h : sized) : reportCheck f t n pairs s = _ := reportCheck_sized h (of_decide_eq_true wf h.2.2)
  have full : (s.slotFree = false ∨ s.freePlaces .plant < 2) ↔ ¬ room := by
    rw [← Bool.not_eq_true, State.slotFree_iff, not_and_or, Nat.not_le]
  refine ⟨fun bad => execOutputReport_refused taken (reportCheck_unsized bad),
    fun fits zero => execOutputReport_refused taken ?_, fun fits timed crowded => execOutputReport_refused taken ?_,
    fun fits timed free => ?_⟩
  · rw [checked fits, if_pos zero]
  · rw [checked fits, if_neg timed, if_pos (full.mpr crowded)]
  · have check : reportCheck f t n pairs s = none := by
      rw [checked fits, if_neg timed, if_neg fun h => full.mp h free]
    rw [execOutputReport_accepted taken check, bytesOf_two, flagByte_decide]
    rfl

/-! ## CALIBRATE ROW (R134) -/

/-- The class set anew after another change of the same present row. -/
theorem modRow_classAnew {e : Env} {b : Block} {r : RowId} (g : RowState → RowState) (present : (e.row r).present = true) :
    (b.modRow r g).classAnew e r = b.modRow r fun y => { g y with cls := classTest e.params (e.row r) (g y) } := by
  simp only [Block.classAnew, Block.modRow_modRow, present, if_true]

theorem calibrate_eq {r : RowId} {kc : Nat} (present : (s.env.row r).present = true) :
    let d := { s.env.row r with kc := kc, ss := 0, es := 0, f := 0 }
    s.calibrate r kc = { s with
      env := s.env.modRow r fun _ => d
      blk := s.blk.modRow r fun y => { y with restart := true, cls := classTest s.env.params d y } } := by
  intro d
  have row : (s.env.modRow r (RowData.calibrate kc)).row r = d := by simp [RowData.calibrate, d]
  unfold State.calibrate
  dsimp only
  rw [modRow_classAnew _ (by rw [row]; exact present), row]
  rfl

/-- Settles O43: the row's figures and marks by `calibrate_eq`, and kc as `clamp` stores it. -/
theorem calibrateRowRestarts : Obligations.CalibrateRowRestarts := by
  unfold Obligations.CalibrateRowRestarts
  intro f r kc s taken present stored d
  have clamped : clamp 2048 6144 kc.toNat = stored := clamp_eq (by decide)
  have changed : flagByte (stored != kc.toNat) = if stored ≠ kc.toNat then 1 else 0 := by simp [flagByte]
  unfold exec
  refine (request_answered taken ?_).trans (congrArg _ (answered_env_blk ..))
  have present' : ((s.taken f).env.row r).present = true := by rwa [State.taken_env]
  rw [State.onRow, if_pos present', clamped, calibrate_eq present', bytesOf_two, changed, State.taken_env, State.taken_blk]
  rfl

end Sys2Proof.Machine
end

section
/-! PROOF. ROW STEP (R120 to R131): the stages on a row, the additions to the LIVE bank, and the completion of the report. -/

namespace Sys2Proof.Machine

open Sys2Proof

variable {s : State} {x : Report} {r : RowId} {p : Params} {d : RowData} {y : RowState}

/-! ## The class test and the disturbance gate (R125, R131) -/

theorem RowState.barred_iff (y : RowState) :
    y.barred = true ↔ y.locked ≠ none ∨ y.stranded = true ∨ y.tracker = .faulted ∨ y.faultNoted = true := by
  simp [RowState.barred, Option.isSome_iff_ne_none, or_assoc]

/-- The class test, failing the merit test first (R131, steps 3 and 4). -/
theorem classTest_eq (p : Params) (d : RowData) (y : RowState) :
    classTest p d y =
      if y.locked ≠ none ∨ y.stranded = true ∨ y.tracker = .faulted ∨ y.faultNoted = true then 0
      else if d.ss * p.payback < (d.es * p.tiltPenalty + 2048) / 4096 * p.cleaningHold then 0
      else thresholdCount p d.f := by
  unfold classTest
  simp only [RowState.barred_iff, merit, decide_eq_true_eq, ← Nat.not_lt, ite_not]

theorem Tracker.disturbs_iff (w : Tracker) :
    w.disturbs = true ↔ w = .held ∨ w = .stowReleased ∨ w = .stowed ∨ w = .unstowWanted ∨ w = .faulted := by
  cases w <;> simp [Tracker.disturbs]

theorem rowDisturbed_iff {t : Nat} : rowDisturbed t d y = true ↔ 0 < min d.holdSeconds t ∨ y.tracker = .held
    ∨ y.tracker = .stowReleased ∨ y.tracker = .stowed ∨ y.tracker = .unstowWanted ∨ y.tracker = .faulted := by
  simp [rowDisturbed, heldSeconds, Tracker.disturbs_iff]

/-! ## Additions to the LIVE bank (R138, R140) -/

theorem Bank.addGain_addHoldCost (gain cost : Nat) (bank : Bank) :
    (bank.addGain gain).addHoldCost cost = { bank with
      gain := min top48 (bank.gain + gain), holdCost := min top48 (bank.holdCost + cost)
      saturated := bank.saturated || decide (top48 < bank.gain + gain) || decide (top48 < bank.holdCost + cost) } := by
  simp only [Bank.addGain, Bank.addHoldCost, addSat_fst, addSat_snd]

theorem Bank.addGain_addLoss_addRecovered (gain loss won : Nat) (bank : Bank) :
    ((bank.addGain gain).addLoss loss).addRecovered won = { bank with
      gain := min top48 (bank.gain + gain), loss := min top48 (bank.loss + loss)
      recovered := min top48 (bank.recovered + won)
      saturated := bank.saturated || decide (top48 < bank.gain + gain) || decide (top48 < bank.loss + loss)
        || decide (top48 < bank.recovered + won) } := by
  simp only [Bank.addGain, Bank.addLoss, Bank.addRecovered, addSat_fst, addSat_snd]

theorem Bank.countReport_eq (low : Bool) (bank : Bank) :
    bank.countReport low = { bank with
      reports := min 65535 (bank.reports + 1), lowLight := min 65535 (bank.lowLight + if low then 1 else 0)
      saturated := bank.saturated || decide (65535 < bank.reports + 1)
        || decide (65535 < bank.lowLight + if low then 1 else 0) } := by
  simp only [Bank.countReport, addSat_fst, addSat_snd]

theorem RowData.undisturbed_eq {restart : Bool} {t e lack : Nat} :
    d.undisturbed p restart t e lack =
      let m := if restart then 0 else p.smoothing
      let ss := smooth m d.ss lack
      let es := smooth m d.es e
      let won := recoveredShare d e lack * t
      { d with
        ss := ss, es := es, f := fraction d.f ss es, loss := min top48 (d.loss + lack * t)
        recovered := min top48 (d.recovered + won), credit := d.credit - 1, holdSeconds := 0
        saturated := d.saturated || decide (top48 < d.loss + lack * t) || decide (top48 < d.recovered + won) } := by
  simp only [RowData.undisturbed, addSat_fst, addSat_snd]

/-! ## The stages on a row (R120, R123 to R131) -/

theorem stepRow_absent {pm : Nat} (absent : (s.env.row r).present = false) :
    s.stepRow x r pm = (s, x.stepped false false) := by
  simp [State.stepRow, absent]

theorem stepRow_dark {pm : Nat} (present : (s.env.row r).present = true) (dark : x.pref < s.env.params.lightFloor) :
    s.stepRow x r pm =
      ({ s with env := s.env.modRow r fun z => { z with holdSeconds := 0 } }, x.stepped true true) := by
  simp [State.stepRow, present, dark]

theorem stepRow_lit {pm : Nat} (present : (s.env.row r).present = true) (lit : s.env.params.lightFloor ≤ x.pref) :
    s.stepRow x r pm =
      let out := litStep s.env.params x pm (s.env.row r) (s.blk.row r) s.live
      ({ s with env := s.env.modRow r fun _ => out.1, blk := s.blk.modRow r fun _ => out.2.1, live := out.2.2 },
        x.stepped true false) := by
  simp [State.stepRow, present, Nat.not_lt.mpr lit]

/-- A disturbed row keeps its figures (R125, R130). -/
theorem stepRow_disturbed {pm : Nat} {c : Urgency} (present : (s.env.row r).present = true)
    (lit : s.env.params.lightFloor ≤ x.pref) (disturbed : rowDisturbed x.t (s.env.row r) (s.blk.row r) = true)
    (cls : classTest s.env.params (s.env.row r) (s.blk.row r) = c) :
    let e := expectedOutput x.pref (s.env.row r).kc
    let gain := (pm - e) * x.t
    let cost := holdCostOf s.env.params e (heldSeconds x.t (s.env.row r))
    s.stepRow x r pm =
      ({ s with
          env := s.env.modRow r fun z => { z with holdSeconds := 0 }
          blk := s.blk.modRow r fun z => { z with cls := c }
          live := { s.live with
            gain := min top48 (s.live.gain + gain), holdCost := min top48 (s.live.holdCost + cost)
            saturated := s.live.saturated || decide (top48 < s.live.gain + gain)
              || decide (top48 < s.live.holdCost + cost) } },
        x.stepped true false) := by
  subst cls
  rw [stepRow_lit present lit, litStep, if_pos disturbed]
  dsimp only
  rw [Bank.addGain_addHoldCost]
  rfl

/-- An undisturbed row takes the stages E, F and H (R126, R127, R129), which `g` gives as a change of its figures. -/
theorem stepRow_undisturbed {pm : Nat} {c : Urgency} {g : RowData → RowData} (present : (s.env.row r).present = true)
    (lit : s.env.params.lightFloor ≤ x.pref) (calm : ¬ rowDisturbed x.t (s.env.row r) (s.blk.row r) = true)
    (figures : (s.env.row r).undisturbed s.env.params (s.blk.row r).restart x.t (expectedOutput x.pref (s.env.row r).kc)
      (expectedOutput x.pref (s.env.row r).kc - pm) = g (s.env.row r))
    (cls : classTest s.env.params (g (s.env.row r)) (s.blk.row r) = c) :
    let e := expectedOutput x.pref (s.env.row r).kc
    let gain := (pm - e) * x.t
    let loss := (e - pm) * x.t
    let won := recoveredShare (s.env.row r) e (e - pm) * x.t
    s.stepRow x r pm =
      ({ s with
          env := s.env.modRow r g
          blk := s.blk.modRow r fun z => { z with restart := false, cls := c }
          live := { s.live with
            gain := min top48 (s.live.gain + gain), loss := min top48 (s.live.loss + loss)
            recovered := min top48 (s.live.recovered + won)
            saturated := s.live.saturated || decide (top48 < s.live.gain + gain) || decide (top48 < s.live.loss + loss)
              || decide (top48 < s.live.recovered + won) } },
        x.stepped true false) := by
  subst cls
  rw [stepRow_lit present lit, litStep, if_neg calm]
  dsimp only
  rw [figures, Bank.addGain_addLoss_addRecovered]
  rfl

/-! ## The report after the step (R120 to R122) -/

theorem completeReport_eq (s : State) (x : Report) :
    s.completeReport x = { s with
      inFlight := s.waiting, waiting := none
      live := { s.live with
        reports := min 65535 (s.live.reports + 1), lowLight := min 65535 (s.live.lowLight + if x.lowLight then 1 else 0)
        saturated := s.live.saturated || decide (65535 < s.live.reports + 1)
          || decide (65535 < s.live.lowLight + if x.lowLight then 1 else 0) }
      plant := if x.reserved then
          { s.plant with
            replies := s.plant.replies ++
              [{ tag := x.tag, kind := 0x14, outcome := 0
                 payload := [BitVec.ofNat 8 x.processed, BitVec.ofNat 8 x.skipped, if x.lowLight then 1 else 0,
                   BitVec.ofNat 8 (x.t / 256), BitVec.ofNat 8 x.t] }] }
        else s.plant } := by
  rw [State.completeReport, Bank.countReport_eq, Report.completion, bytesOf_two]
  rfl

/-- The report stays in flight until the step of its last pair completes it. -/
theorem afterStep_stepped (present low : Bool) :
    s.afterStep (x.stepped present low) =
      if x.next < x.pairs.length then { s with inFlight := some (x.stepped present low) }
      else s.completeReport (x.stepped present low) := by
  unfold State.afterStep
  by_cases more : x.next < x.pairs.length
  · exact (if_neg (Nat.not_lt.mpr more)).trans (if_pos more).symm
  · exact (if_pos (Nat.lt_succ_of_le (Nat.not_lt.mp more))).trans (if_neg more).symm

/-! ## The commands -/

theorem execRowStep_taken {pm : BitVec 16} {u : State} {z : Report} (up : s.inReset = false) (quietA : s.mastA.pending = none)
    (quietB : s.mastB.pending = none) (flying : s.inFlight = some x) (pair : x.pairs[x.next - 1]? = some (r, pm))
    (row : s.stepRow x r pm.toNat = (u, z)) : exec .rowStep s = .next (u.afterStep z) := by
  show awake s _ = _
  simp [awake, up, quietA, quietB, flying, pair, row]

theorem execRowStep_idle (up : s.inReset = false)
    (idle : s.mastA.pending ≠ none ∨ s.mastB.pending ≠ none ∨ s.inFlight = none) : exec .rowStep s = .next s := by
  show awake s _ = _
  by_cases sample : s.mastA.pending ≠ none ∨ s.mastB.pending ≠ none
  · have waits : (s.mastA.pending.isSome || s.mastB.pending.isSome) = true := by
      simpa [Option.isSome_iff_ne_none] using sample
    simp [awake, up, waits]
  · have landed : s.inFlight = none := by tauto
    simp [awake, up, landed]

theorem execMastStep_idle (up : s.inReset = false) (quietA : s.mastA.pending = none) (quietB : s.mastB.pending = none) :
    exec .mastStep s = .next s := by
  show awake s _ = _
  simp only [awake, up, State.servedMast, quietA, quietB]
  rfl

/-- Settles O42: the four ways of `State.stepRow`, with the class test in the order of the statement (`classTest_eq`), and after each
the report that stays in flight or is completed (`afterStep_stepped`). -/
theorem rowStepTakesTheStages : Obligations.RowStepTakesTheStages := by
  unfold Obligations.RowStepTakesTheStages
  refine ⟨fun s x r pm up quietA quietB flying pair => ?_,
    fun s up => ⟨execRowStep_idle up, execMastStep_idle up⟩⟩
  intro p d y top finish e lack gain held disturbed cls
  have classed (z : RowData) : classTest p z y = cls z.ss z.es z.f := classTest_eq p z y
  have stepped {u : State} {present low low' : Bool} (row : s.stepRow x r pm.toNat = (u, x.stepped present low))
      (marked : (x.lowLight || low) = low') (waits : u.waiting = s.waiting) (plant : u.plant = s.plant) :
      exec .rowStep s = .next (finish u (x.stepped present low).processed (x.stepped present low).skipped low') := by
    subst marked
    rw [execRowStep_taken up quietA quietB flying pair row, afterStep_stepped]
    refine congrArg _ (ite_congr rfl (fun _ => rfl) fun _ => ?_)
    rw [completeReport_eq, waits, plant]
    rfl
  refine ⟨fun absent => stepped (stepRow_absent absent) (Bool.or_false _) rfl rfl,
    fun present dark => stepped (stepRow_dark present dark) (Bool.or_true _) rfl rfl,
    fun present lit moved => ?_, fun present lit still => ?_⟩
  · have disturbs := rowDisturbed_iff.mpr moved
    exact stepped (stepRow_disturbed present lit disturbs (classed d)) (Bool.or_false _) rfl rfl
  · have calm := mt rowDisturbed_iff.mp still
    exact stepped (stepRow_undisturbed present lit calm RowData.undisturbed_eq (classed _)) (Bool.or_false _) rfl rfl

end Sys2Proof.Machine
end

section
/-! PROOF. MAST STEP on the mast records (R154 to R157), and the mast level and the block level (R158, R159). -/

namespace Sys2Proof.Machine

open Sys2Proof

variable {s t : State} {m : Mast} {c : Nat} {x a b : MastRec} {p : Params} {limit : Nat}

/-! ## The mast record -/

/-- A HEALTHY mast whose overruns or silence reach their limit fails (R156). -/
abbrev MastRec.Fails (limit : Nat) (x : MastRec) : Prop := x.health = .healthy ∧ (3 ≤ x.overrun ∨ limit ≤ x.silence)

/-- A FAULTED mast with 10 good samples in a row is HEALTHY again (R156). -/
abbrev MastRec.Heals (x : MastRec) : Prop := x.health = .faulted ∧ 10 ≤ x.recovery

theorem settle_fails (fails : x.Fails limit) :
    x.settle limit = x.fail (if 3 ≤ x.overrun then .overrun else .silent) := by
  obtain ⟨healthy, why⟩ := fails
  unfold MastRec.settle
  by_cases overrun : 3 ≤ x.overrun
  · rw [if_pos ⟨healthy, overrun⟩, if_pos overrun]
  · rw [if_neg (fun h => overrun h.2), if_pos ⟨healthy, why.resolve_left overrun⟩, if_neg overrun]

theorem settle_heals (heals : x.Heals) :
    x.settle limit = { x with health := .healthy, silence := 0, overrun := 0, recovery := 0 } := by
  simp [MastRec.settle, heals.1, heals.2]

theorem settle_stays (works : ¬ x.Fails limit) (stays : ¬ x.Heals) : x.settle limit = x := by
  unfold MastRec.settle
  rw [if_neg fun h => works ⟨h.1, .inl h.2⟩, if_neg fun h => works ⟨h.1, .inr h.2⟩, if_neg stays]

theorem enterWindow_eq (n v : Nat) (w : List Nat) : enterWindow n v w = (if n ≤ w.length then w.tail else w) ++ [v] := by
  unfold enterWindow
  split <;> rfl

theorem enter_healthy (healthy : x.health = .healthy) :
    x.enter = { x with
      ring := (if 60 ≤ x.ring.length then x.ring.tail else x.ring) ++ [x.speed * x.speed]
      sum := x.sum - (if 60 ≤ x.ring.length then x.ring.headD 0 else 0) + x.speed * x.speed
      window := (if 3 ≤ x.window.length then x.window.tail else x.window) ++ [x.speed]
      gust := ((if 3 ≤ x.window.length then x.window.tail else x.window) ++ [x.speed]).foldl max 0 } := by
  simp only [MastRec.enter, if_pos healthy, enterWindow_eq, leaving]

theorem enter_faulted (faulted : x.health = .faulted) : x.enter = x := by
  simp [MastRec.enter, faulted]

/-- The health change and the entry of the speed, for a mast whose counts are taken (R155 to R157). -/
theorem settle_enter (limit : Nat) (counted : x.health = .healthy → x.recovery = 0) :
    (x.settle limit).enter =
      if x.Fails limit then
        { x with
          health := .faulted, cause := some (if 3 ≤ x.overrun then .overrun else .silent)
          ring := [], sum := 0, window := [], gust := 0, silence := 0, overrun := 0, recovery := 0 }
      else if x.health = .healthy ∨ x.Heals then
        { x with
          health := .healthy
          ring := (if 60 ≤ x.ring.length then x.ring.tail else x.ring) ++ [x.speed * x.speed]
          sum := x.sum - (if 60 ≤ x.ring.length then x.ring.headD 0 else 0) + x.speed * x.speed
          window := (if 3 ≤ x.window.length then x.window.tail else x.window) ++ [x.speed]
          gust := ((if 3 ≤ x.window.length then x.window.tail else x.window) ++ [x.speed]).foldl max 0
          silence := if x.Heals then 0 else x.silence, overrun := if x.Heals then 0 else x.overrun, recovery := 0 }
      else x := by
  by_cases fails : x.Fails limit
  · rw [settle_fails fails, if_pos fails]
    exact enter_faulted rfl
  rw [if_neg fails]
  by_cases heals : x.Heals
  · have entered : x.health = .healthy ∨ x.Heals := .inr heals
    rw [if_pos entered, if_pos heals, if_pos heals, settle_heals heals]
    exact enter_healthy rfl
  rw [settle_stays fails heals, if_neg heals, if_neg heals]
  obtain healthy | faulted : x.health = .healthy ∨ x.health = .faulted := by cases x.health <;> simp
  · have entered : x.health = .healthy ∨ x.Heals := .inl healthy
    rw [if_pos entered, enter_healthy healthy, ← healthy, ← counted healthy]
  · have out : ¬ (x.health = .healthy ∨ x.Heals) := fun h => h.elim (by simp [faulted]) heals
    rw [if_neg out, enter_faulted faulted]

/-! ## The step of the served mast (R117) -/

theorem servedMast_of (served : (m = .a ∧ s.mastA.pending = some c)
    ∨ (m = .b ∧ s.mastA.pending = none ∧ s.mastB.pending = some c)) : s.servedMast = some (m, c) := by
  obtain ⟨rfl, sample⟩ | ⟨rfl, none', sample⟩ := served
  · simp [State.servedMast, sample]
  · simp [State.servedMast, none', sample]

theorem execMastStep_next (up : s.inReset = false) (served : s.servedMast = some (m, c)) (h : exec .mastStep s = .next t) :
    t = { s.stepMast m c with blk := t.blk } := by
  have event : (s.stepMast m c).event (handLevel (s.stepMast m c).env (s.stepMast m c).windLevel
      (ringFilled (s.mast m) ((s.stepMast m c).mast m)) (s.stepMast m c).blk) = .next t := by
    simpa [exec, execMastStep, awake, up, served] using h
  obtain ⟨b, -, rfl⟩ := event_next event
  rfl

/-! ## Levels (R158, R159) -/

theorem meets_iff {gust sustained : Nat} : x.meets gust sustained = true ↔
    x.health = .healthy ∧ (gust ≤ x.gust ∨ (x.ring.length = 60 ∧ 60 * sustained * sustained ≤ x.sum)) := by
  simp [MastRec.meets]

theorem level_faulted (faulted : x.health = .faulted) : x.level p = .none := by
  simp [MastRec.level, MastRec.meets, faulted]

theorem blockLevel_faulted (ha : a.health = .faulted) (hb : b.health = .faulted) : blockLevel p a b = .park :=
  if_pos ⟨ha, hb⟩

/-- With a HEALTHY mast the block level is the higher of the two mast levels. -/
theorem blockLevel_healthy (some' : a.health = .healthy ∨ b.health = .healthy) :
    blockLevel p a b = if (a.level p).place < (b.level p).place then b.level p else a.level p := by
  refine if_neg ?_
  rintro ⟨ha, hb⟩
  simp [ha, hb] at some'

theorem Level.place_eq_zero {l : Level} : l.place = 0 ↔ l = .none := by
  cases l <;> simp [Level.place]

theorem blockLevel_healthy_max (some' : a.health = .healthy ∨ b.health = .healthy) :
    (blockLevel p a b = a.level p ∨ blockLevel p a b = b.level p)
      ∧ (a.level p).place ≤ (blockLevel p a b).place ∧ (b.level p).place ≤ (blockLevel p a b).place := by
  rw [blockLevel_healthy some']
  split
  next higher => exact ⟨.inr rfl, higher.le, le_refl _⟩
  next lower => exact ⟨.inl rfl, le_refl _, Nat.not_lt.mp lower⟩

/-- A FAULTED mast has no part in the block level of a HEALTHY one. -/
theorem blockLevel_second (ha : a.health = .faulted) (hb : b.health = .healthy) : blockLevel p a b = b.level p := by
  rw [blockLevel_healthy (.inr hb), level_faulted ha]
  split
  next => rfl
  next lower => exact (Level.place_eq_zero.mp (Nat.le_zero.mp (Nat.not_lt.mp lower))).symm

/-- Settles O46: the served mast takes its counts and then `settle_enter`, and the level that is handed changes the block alone
(`execMastStep_next`); the block level is the higher of two HEALTHY masts' levels (`blockLevel_healthy`). -/
theorem mastStepAndLevels : Obligations.MastStepAndLevels := by
  unfold Obligations.MastStepAndLevels
  refine ⟨fun s t m c up next served => ?_, fun p a b => ?_⟩
  · intro x other factor v silence overrun recovery fails heals window y
    have counted : x.count (s.env.params.factor m) c (s.mast (otherMast m)).speed =
        { x with pending := none, speed := v, silence := silence, overrun := overrun, recovery := recovery } := by
      cases m <;> rfl
    have fresh (healthy : x.health = .healthy) : recovery = 0 := if_neg (by simp [healthy])
    have stepped : x.step (s.env.params.factor m) s.env.params.silenceLimit c (s.mast (otherMast m)).speed = y := by
      rw [MastRec.step, counted]
      exact settle_enter _ fresh
    rw [execMastStep_next up (servedMast_of served) next]
    exact congrArg (fun z => { s.setMast m z with blk := t.blk }) stepped
  · intro meets level
    have leveled (x : MastRec) : x.level p = level x := by
      simp only [MastRec.level, meets_iff]
      rfl
    rw [← leveled a, ← leveled b]
    exact ⟨rfl, blockLevel_faulted, blockLevel_healthy_max, blockLevel_second⟩

end Sys2Proof.Machine
end

section
/-! PROOF. What a command leaves of the accumulators of the rows and banks (R141): the relation `AccountsKept`, and the requests
and events under which it holds. -/

namespace Sys2Proof.Machine

open Sys2Proof

variable {s t u : State} {f : Frame} {a : Answer} {b : Block} {zeroed : RowId → Prop}

/-! ## Accumulators that do not decrease -/

/-- No accumulator of a row is lower in `y` than in `x`. -/
abbrev RowData.AtMost (x y : RowData) : Prop := x.loss ≤ y.loss ∧ x.recovered ≤ y.recovered

theorem RowData.AtMost.of_eq {x y : RowData} (loss : y.loss = x.loss) (recovered : y.recovered = x.recovered) : x.AtMost y :=
  ⟨loss.ge, recovered.ge⟩

/-- No total or count of a bank is lower in `y` than in `x`. -/
abbrev Bank.AtMost (x y : Bank) : Prop :=
  x.loss ≤ y.loss ∧ x.gain ≤ y.gain ∧ x.recovered ≤ y.recovered ∧ x.holdCost ≤ y.holdCost
    ∧ x.stormSeconds ≤ y.stormSeconds ∧ x.reports ≤ y.reports ∧ x.lowLight ≤ y.lowLight

theorem Bank.AtMost.refl (x : Bank) : x.AtMost x := ⟨le_rfl, le_rfl, le_rfl, le_rfl, le_rfl, le_rfl, le_rfl⟩

/-- A saturating addition to a value in range does not lower it (R132, R140). -/
theorem le_addSat {top n : Nat} (h : n ≤ top) (d : Nat) : n ≤ (addSat top n d).1 := by
  rw [addSat_fst]
  exact le_min h (Nat.le_add_right n d)

/-! ## What a command leaves of the accumulators -/

/-- From `s` to `t` no accumulator of a row decreases, but those of a row that `zeroed` admits, which may be set to zero; no total
of the LIVE bank decreases; and the totals of the CLOSED bank stand. -/
structure AccountsKept (zeroed : RowId → Prop) (s t : State) : Prop where
  rows   : ∀ r, (s.env.row r).AtMost (t.env.row r) ∨ ((t.env.row r).loss = 0 ∧ (t.env.row r).recovered = 0 ∧ zeroed r)
  live   : s.live.AtMost t.live
  closed : t.closed.bank = s.closed.bank

namespace AccountsKept

/-- A change that leaves both banks and raises or leaves the rows' accumulators. -/
theorem of_rows (rows : ∀ r, (s.env.row r).AtMost (t.env.row r)) (live : t.live = s.live := by rfl)
    (closed : t.closed.bank = s.closed.bank := by rfl) : AccountsKept zeroed s t :=
  ⟨fun r => .inl (rows r), live ▸ .refl _, closed⟩

/-- A change beside the rows and the banks. -/
theorem beside (env : t.env = s.env := by rfl) (live : t.live = s.live := by rfl)
    (closed : t.closed = s.closed := by rfl) : AccountsKept zeroed s t :=
  .of_rows (fun _ => env ▸ .of_eq rfl rfl) live (congrArg ClosedBank.bank closed)

@[simp] theorem refl (s : State) : AccountsKept zeroed s s := beside

/-- The rules of holds, robots, transfers, rounds and storms write the block alone. -/
@[simp] theorem blk (s : State) (b : Block) : AccountsKept zeroed s { s with blk := b } := beside

end AccountsKept

theorem awake_keeps_accounts {go : Result} (h : awake s go = .next t) (live : go = .next t → AccountsKept zeroed s t) :
    AccountsKept zeroed s t := by
  unfold awake at h
  split at h
  · cases h; exact .refl s
  · exact live h

theorem event_keeps_accounts {x : Handed} (h : s.event x = .next t) : AccountsKept zeroed s t := by
  obtain ⟨b, -, rfl⟩ := event_next h
  exact .blk s b

theorem expiry_keeps_accounts {kind : DeadlineKind} {rule : Block → Handed} (h : s.expiry kind rule = .next t) :
    AccountsKept zeroed s t := by
  refine awake_keeps_accounts h fun h => ?_
  split at h
  · exact event_keeps_accounts h
  · cases h; exact .refl s

/-! ## What a request leaves of the accumulators -/

/-- A request that answers a next state leaves the accumulators, or its own rule answers that state but for the reply. -/
theorem request_accounts {q : Request} {body : State → Served} (h : request q f s body = .next t) :
    AccountsKept zeroed s t ∨ ∃ u a, body (s.taken f) = some (u, a) ∧ t = u.reply f q.kind a := by
  obtain ⟨-, rfl⟩ | ⟨-, -, rfl⟩ | ⟨-, -, c, -, rfl⟩ | ⟨-, -, -, served⟩ := request_next h
  · exact .inl (.refl _)
  · exact .inl (.beside (by simp) (by simp) (by simp))
  · exact .inl (.beside (by simp) (by simp) (by simp))
  · exact .inr served

/-- The rule of a request keeps the accumulators, whatever it answers. -/
def ServedKeepsAccounts (zeroed : RowId → Prop) (t : State) (x : Served) : Prop :=
  ∀ u a, x = some (u, a) → AccountsKept zeroed t u

/-- The rule keeps them on any state with the block of `s`, such as the one in which the frame's own marks are made. -/
theorem request_keeps_accounts {q : Request} {body : State → Served} (h : request q f s body = .next t)
    (kept : ∀ u, u.blk = s.blk → ServedKeepsAccounts zeroed u (body u)) : AccountsKept zeroed s t := by
  obtain done | ⟨u, a, served, rfl⟩ := request_accounts h
  · exact done
  · obtain ⟨rows, live, closed⟩ := kept (s.taken f) (by simp) u a served
    exact ⟨by simpa using rows, by simpa using live, by simpa using closed⟩

namespace ServedKeepsAccounts

@[simp] theorem some_iff : ServedKeepsAccounts zeroed t (some (u, a)) ↔ AccountsKept zeroed t u := by
  simp [ServedKeepsAccounts]

theorem answer (h : AccountsKept zeroed t u) : ServedKeepsAccounts zeroed t (some (u, a)) := some_iff.mpr h

@[simp] theorem refuse (t : State) (c : Code) : ServedKeepsAccounts zeroed t (t.refuse c) := answer (.refl t)

/-- The hand-ons that a rule on the block leaves change the block alone. -/
theorem serve_of {x : Handed} (h : AccountsKept zeroed t u) : ServedKeepsAccounts zeroed t (u.serve x a) := by
  intro v c hv
  obtain ⟨b, -, rfl, -⟩ := serve_some hv
  exact ⟨h.rows, h.live, h.closed⟩

@[simp] theorem serve (t : State) (x : Handed) (a : Answer) : ServedKeepsAccounts zeroed t (t.serve x a) := serve_of (.refl t)

theorem onRow {r : RowId} {x : Served} (h : ServedKeepsAccounts zeroed t x) :
    ServedKeepsAccounts zeroed t (t.onRow r t.refuse x) := by
  unfold State.onRow
  split
  · exact h
  · exact refuse t _

theorem onRobot {robot : Byte} {x : RobotId → Served}
    (h : ∀ k, robotArg robot = some k → ServedKeepsAccounts zeroed t (x k)) :
    ServedKeepsAccounts zeroed t (onRobot robot t.refuse x) := by
  unfold Machine.onRobot
  split
  · next k hk => exact h k hk
  · exact refuse t _

end ServedKeepsAccounts

end Sys2Proof.Machine
end

section
/-! PROOF. Every command on the accumulators (R141): the commands that add to them, those that set them to zero, and the rest. -/

namespace Sys2Proof.Machine

open Sys2Proof

variable {s t u : State} {f : Frame} {zeroed : RowId → Prop}

/-! ## Additions (R128 to R132, R138 to R140) -/

theorem RowData.atMost_undisturbed {d : RowData} (p : Params) (restart : Bool) (n e lack : Nat) (h : d.InRange) :
    d.AtMost (d.undisturbed p restart n e lack) := by
  obtain ⟨-, -, -, -, -, -, -, loss, recovered, -⟩ := h
  exact ⟨le_addSat loss _, le_addSat recovered _⟩

/-- A row step adds to the accumulators of its row and to the LIVE bank, whose counts stand (R128 to R130, R138). -/
theorem litStep_atMost {p : Params} {x : Report} {pm : Nat} {d : RowData} {y : RowState} {bank : Bank} (row : d.InRange)
    (inRange : bank.InRange) :
    d.AtMost (litStep p x pm d y bank).1 ∧ bank.AtMost (litStep p x pm d y bank).2.2
      ∧ (litStep p x pm d y bank).2.2.reports = bank.reports ∧ (litStep p x pm d y bank).2.2.lowLight = bank.lowLight := by
  obtain ⟨loss, gain, recovered, holdCost, -⟩ := inRange
  unfold litStep
  dsimp only
  split
  · exact ⟨.of_eq rfl rfl, ⟨le_rfl, le_addSat gain _, le_rfl, le_addSat holdCost _, le_rfl, le_rfl, le_rfl⟩, rfl, rfl⟩
  · exact ⟨RowData.atMost_undisturbed _ _ _ _ _ row,
      ⟨le_addSat loss _, le_addSat gain _, le_addSat recovered _, le_rfl, le_rfl, le_rfl, le_rfl⟩, rfl, rfl⟩

/-- A completed report counts in the LIVE bank (R121, R138). -/
theorem Bank.atMost_countReport {x y : Bank} (h : x.AtMost y) (reports : y.reports ≤ 65535)
    (lowLight : y.lowLight ≤ y.reports) (low : Bool) : x.AtMost (y.countReport low) := by
  obtain ⟨loss, gain, recovered, holdCost, storm, counted, dark⟩ := h
  exact ⟨loss, gain, recovered, holdCost, storm, counted.trans (le_addSat reports _),
    dark.trans (le_addSat (lowLight.trans reports) _)⟩

/-- The storm second of a tick (R139). -/
theorem Bank.atMost_addStorm {x : Bank} (h : x.InRange) : x.AtMost x.addStorm := by
  obtain ⟨-, -, -, -, storm, -⟩ := h
  exact ⟨le_rfl, le_rfl, le_rfl, le_rfl, le_addSat storm _, le_rfl, le_rfl⟩

theorem Env.row_modRow_atMost {e : Env} {r : RowId} {g : RowData → RowData} (h : (e.row r).AtMost (g (e.row r))) (r' : RowId) :
    (e.row r').AtMost ((e.modRow r g).row r') := by
  rw [Env.row_modRow]
  split
  · next same => exact same ▸ h
  · exact .of_eq rfl rfl

/-- The stages of a row step keep the accumulators and leave the counts of the LIVE bank. -/
theorem stepRow_keeps_accounts {x : Report} {r : RowId} {pm : Nat} (row : (s.env.row r).InRange) (bank : s.live.InRange) :
    AccountsKept zeroed s (s.stepRow x r pm).1 ∧ (s.stepRow x r pm).1.live.reports = s.live.reports
      ∧ (s.stepRow x r pm).1.live.lowLight = s.live.lowLight := by
  unfold State.stepRow
  dsimp only
  split
  · exact ⟨.refl s, rfl, rfl⟩
  · split
    · exact ⟨.of_rows (Env.row_modRow_atMost (.of_eq rfl rfl)), rfl, rfl⟩
    · obtain ⟨figures, totals, counts⟩ := litStep_atMost (p := s.env.params) (x := x) (pm := pm) (y := s.blk.row r) row bank
      exact ⟨⟨fun r' => .inl (Env.row_modRow_atMost figures r'), totals, rfl⟩, counts⟩

theorem execRowStep_keeps_accounts (figures : s.FiguresInRange) (banks : s.BanksInRange) (h : execRowStep s = .next t) :
    AccountsKept zeroed s t := by
  refine awake_keeps_accounts h fun h => ?_
  split at h
  · cases h; exact .refl s
  · split at h
    · cases h; exact .refl s
    · next x _ =>
      split at h
      · cases h; exact .refl s
      · next r pm _ =>
        cases h
        obtain ⟨-, rows, -⟩ := figures
        obtain ⟨live, -⟩ := banks
        obtain ⟨kept, reports, lowLight⟩ := stepRow_keeps_accounts (zeroed := zeroed) (x := x) (pm := pm.toNat) (rows r) live
        obtain ⟨-, -, -, -, -, most, least⟩ := live
        unfold State.afterStep
        split
        · have counts := Bank.atMost_countReport kept.live (reports ▸ most) (by rw [reports, lowLight]; exact least)
          exact ⟨kept.rows, counts _, kept.closed⟩
        · exact ⟨kept.rows, kept.live, kept.closed⟩

/-- A row of a table that is changed as a whole. -/
theorem row_of_mapAll {g : RowId → RowData → RowData} (data : t.env.data = mapAll s.env.data g) (r : RowId) :
    t.env.row r = g r (s.env.row r) :=
  (congrArg (fun rows : Vector RowData 256 => rows[r]) data).trans (mapAll_get _ _ r)

theorem RowData.atMost_tick (x : RowState) (d : RowData) : d.AtMost (d.tick x) := by
  unfold RowData.tick
  split <;> exact .of_eq rfl rfl

theorem tick_keeps_accounts (inRange : s.live.InRange) : AccountsKept zeroed s s.tick := by
  refine ⟨fun r => .inl ?_, ?_, rfl⟩
  · rw [row_of_mapAll (t := s.tick) rfl r]
    exact RowData.atMost_tick _ _
  · unfold State.tick
    dsimp only
    split
    · exact Bank.atMost_addStorm inRange
    · exact .refl _

theorem execTick_keeps_accounts (banks : s.BanksInRange) (h : execTick s = .next t) : AccountsKept zeroed s t := by
  refine awake_keeps_accounts h fun h => ?_
  split at h
  · cases h
  · next b _ =>
    cases h
    obtain ⟨rows, live, closed⟩ := tick_keeps_accounts (zeroed := zeroed) (s := { s with blk := b }) banks.1
    exact ⟨rows, live, closed⟩

/-! ## Rows set to zero (R8, R111) -/

/-- The rows whose accumulators a command sets to zero: those of the bay that MAP BAY loads (R8), and the row that CLEAN DONE
reports cleaned (R111). -/
def ZeroesRow (i : Instr) (b : Block) (r : RowId) : Prop :=
  (∃ f bay es, i = .mapBay f bay es ∧ bay.toNat = r.val / 16)
    ∨ ∃ f robot k, i = .cleanDone f robot ∧ robot.toNat = k.val ∧ (b.robot k).location = .onRow r

theorem bayArg_some {bay : Byte} {x : Bay} (h : bayArg bay = some x) : bay.toNat = x.val := by
  unfold bayArg at h
  split at h
  · cases h; rfl
  · cases h

theorem execMapBay_keeps_accounts {bay : Byte} {entries : Vector PlaceEntry 16} (h : execMapBay f bay entries s = .next t) :
    AccountsKept (ZeroesRow (.mapBay f bay entries) s.blk) s t := by
  refine request_keeps_accounts h fun u _ => ?_
  split
  · exact .refuse _ _
  · next x bayIs =>
    split
    · exact .refuse _ _
    · refine .serve_of ⟨fun r => ?_, .refl _, rfl⟩
      rw [row_of_mapAll (t := u.loadBay x entries) rfl r]
      split
      · next inBay => exact .inr ⟨rfl, rfl, .inl ⟨f, bay, entries, rfl, (bayArg_some bayIs).trans inBay.symm⟩⟩
      · exact .inl (.of_eq rfl rfl)

theorem execCleanDone_keeps_accounts {robot : Byte} (h : execCleanDone f robot s = .next t) :
    AccountsKept (ZeroesRow (.cleanDone f robot) s.blk) s t := by
  refine request_keeps_accounts h fun u blk => .onRobot fun k robotIs => ?_
  split
  · exact .refuse _ _
  · next r riding =>
    refine .serve_of ⟨fun r' => ?_, .refl _, rfl⟩
    rw [blk] at riding
    obtain ⟨-, location⟩ := Robot.ridingOn_some riding
    rw [Env.row_modRow]
    split
    · next same => exact .inr ⟨rfl, rfl, .inr ⟨f, robot, k, rfl, robotArg_some robotIs, same ▸ location⟩⟩
    · exact .inl (.of_eq rfl rfl)

/-! ## Rows and banks that change beside their accumulators -/

theorem execSetShuttle_keeps_accounts {shuttle first last : Byte} (h : execSetShuttle f shuttle first last s = .next t) :
    AccountsKept zeroed s t := by
  refine request_keeps_accounts h fun u _ => ?_
  split
  · next v given _ _ =>
    split
    · exact .refuse _ _
    · split
      · exact .refuse _ _
      · refine .answer (.of_rows fun r => ?_)
        rw [row_of_mapAll (t := u.setRange v given) rfl r]
        split <;> exact .of_eq rfl rfl
  · exact .refuse _ _

theorem execCalibrateRow_keeps_accounts {r : RowId} {kc : BitVec 16} (h : execCalibrateRow f r kc s = .next t) :
    AccountsKept zeroed s t :=
  request_keeps_accounts h fun _ _ => .onRow (.answer (.of_rows (Env.row_modRow_atMost (.of_eq rfl rfl))))

theorem execConfigure_keeps_accounts {parameter : Byte} {value : BitVec 32} (h : execConfigure f parameter value s = .next t) :
    AccountsKept zeroed s t := by
  have stored (u : State) (p : Params) : AccountsKept zeroed u { u with env := { u.env with params := p } } :=
    .of_rows fun _ => .of_eq rfl rfl
  refine request_keeps_accounts h fun u _ => ?_
  split
  · exact .refuse _ _
  · dsimp only
    split
    · exact .serve_of (stored _ _)
    · exact .answer (stored _ _)

/-! ## Commands beside the rows and the banks -/

theorem execFetch_keeps_accounts {p : Port} {n : Nat} (h : execFetch p n s = .next t) : AccountsKept zeroed s t := by
  refine awake_keeps_accounts h fun h => ?_
  split at h
  · cases h; exact .beside (by simp) (by simp) (by simp)
  · dsimp only at h
    split at h
    · cases h; exact .beside (by simp) (by simp) (by simp)
    · split at h <;> cases h <;> exact .beside (by simp) (by simp) (by simp)

theorem execPortReset_keeps_accounts {p : Port} (h : execPortReset p s = .next t) : AccountsKept zeroed s t := by
  refine awake_keeps_accounts h fun h => ?_
  cases p <;> cases h <;> exact .beside (by simp) (by simp) (by simp)

theorem execMastStep_keeps_accounts (h : execMastStep s = .next t) : AccountsKept zeroed s t := by
  refine awake_keeps_accounts h fun h => ?_
  split at h
  · cases h; exact .refl s
  · next m c _ =>
    obtain ⟨b, -, rfl⟩ := event_next h
    cases m <;> exact .beside

theorem execContendAsserted_keeps_accounts (h : execContendAsserted s = .next t) : AccountsKept zeroed s t := by
  unfold execContendAsserted at h
  split at h
  · cases h; exact .refl s
  · split at h <;> cases h <;> exact .beside

theorem execUnknownRequest_keeps_accounts {kind : Byte} (h : execUnknownRequest f kind s = .next t) :
    AccountsKept zeroed s t := by
  unfold execUnknownRequest at h
  split at h
  · cases h
  · exact request_keeps_accounts h fun _ _ => .refuse _ _

theorem execOutputReport_keeps_accounts {pref v : BitVec 16} {n : Byte} {pairs : List (RowId × BitVec 16)}
    (h : execOutputReport f pref v n pairs s = .next t) : AccountsKept zeroed s t := by
  refine request_keeps_accounts h fun u _ => ?_
  split
  · exact .refuse _ _
  · refine .answer ?_
    unfold State.takeSlot
    split <;> exact .beside

theorem execReadShuttle_keeps_accounts {shuttle : Byte} (h : execReadShuttle f shuttle s = .next t) :
    AccountsKept zeroed s t := by
  refine request_keeps_accounts h fun u _ => ?_
  split
  · exact .refuse _ _
  · rw [State.linkRead_eq]
    exact .answer (.blk _ _)

theorem execReadWeather_keeps_accounts (h : execReadWeather f s = .next t) : AccountsKept zeroed s t := by
  refine request_keeps_accounts h fun u _ => ?_
  rw [State.weatherRead_eq]
  exact .answer (.blk _ _)

theorem execTransfer_keeps_accounts {robot : Byte} {dest : Dest} (h : execTransfer f robot dest s = .next t) :
    AccountsKept zeroed s t := by
  refine request_keeps_accounts h fun u _ => ?_
  split
  · exact .onRobot fun _ _ => by split <;> simp
  · exact .refuse _ _

theorem execClearShuttle_keeps_accounts {shuttle : Byte} (h : execClearShuttle f shuttle s = .next t) :
    AccountsKept zeroed s t := by
  refine request_keeps_accounts h fun u _ => ?_
  split
  · exact .refuse _ _
  · split <;> simp

/-- REQUEST_WORK, whose rule writes the block alone (R101 to R106). -/
theorem execRequestWork_keeps_accounts {robot : Byte} (h : execRequestWork f robot s = .next t) : AccountsKept zeroed s t := by
  refine request_keeps_accounts h fun _ _ => .onRobot fun _ _ => ?_
  split
  · exact .refuse _ _
  · split <;> simp

/-! ## Every command -/

/-- The commands that open the LIVE bank anew (R142, R146, R190). -/
abbrev OpensBank (i : Instr) : Prop := i = .powerOn ∨ (∃ f, i = .resetAccounts f) ∨ ∃ f, i = .closePeriod f

/-- No command but those that open the LIVE bank lowers an accumulator, save those of the rows that it sets to zero. The rules of
most requests refuse, or write the block alone. -/
theorem exec_keeps_accounts (i : Instr) (figures : s.FiguresInRange) (banks : s.BanksInRange) (running : ¬ OpensBank i)
    (h : exec i s = .next t) : AccountsKept (ZeroesRow i s.blk) s t := by
  unfold exec at h
  cases i with
  | closePeriod f => exact absurd (.inr (.inr ⟨f, rfl⟩)) running
  | resetAccounts f => exact absurd (.inr (.inl ⟨f, rfl⟩)) running
  | powerOn => exact absurd (.inl rfl) running
  | rowStep => exact execRowStep_keeps_accounts figures banks h
  | tick => exact execTick_keeps_accounts banks h
  | mapBay _ _ _ => exact execMapBay_keeps_accounts h
  | cleanDone _ _ => exact execCleanDone_keeps_accounts h
  | setShuttle _ _ _ _ => exact execSetShuttle_keeps_accounts h
  | calibrateRow _ _ _ => exact execCalibrateRow_keeps_accounts h
  | configure _ _ _ => exact execConfigure_keeps_accounts h
  | setTime _ _ => exact request_keeps_accounts h fun _ _ => .answer (.of_rows fun _ => .of_eq rfl rfl)
  | readPeriod _ => exact request_keeps_accounts h fun _ _ => .answer (.of_rows fun _ => .of_eq rfl rfl)
  | readLive _ => exact request_keeps_accounts h fun _ _ => by simp
  | readRow _ _ => exact request_keeps_accounts h fun _ _ => .onRow (.answer .beside)
  | readRobot _ _ => exact request_keeps_accounts h fun _ _ => .onRobot fun _ _ => by simp
  | readShuttle _ _ => exact execReadShuttle_keeps_accounts h
  | readWeather _ => exact execReadWeather_keeps_accounts h
  | outputReport _ _ _ _ _ => exact execOutputReport_keeps_accounts h
  | lockRow _ _ => exact request_keeps_accounts h fun _ _ => .onRow (by simp)
  | restoreRow _ _ => exact request_keeps_accounts h fun _ _ => .onRow (by simp)
  | fetchAttention _ _ => exact request_keeps_accounts h fun _ _ => by simp
  | holdConfirm _ _ => exact request_keeps_accounts h fun _ _ => .onRow (by split <;> simp)
  | stowDone _ _ => exact request_keeps_accounts h fun _ _ => .onRow (by split <;> simp)
  | unstowDone _ _ => exact request_keeps_accounts h fun _ _ => .onRow (by split <;> simp)
  | rowFault _ _ => exact request_keeps_accounts h fun _ _ => .onRow (by simp)
  | rowReady _ _ => exact request_keeps_accounts h fun _ _ => .onRow (by split_ifs <;> simp)
  | enterRow _ _ _ => exact request_keeps_accounts h fun _ _ => .onRow (.onRobot fun _ _ => by split <;> simp)
  | exitRow _ _ => exact request_keeps_accounts h fun _ _ => .onRobot fun _ _ => by split <;> simp
  | cleanAbort _ _ => exact request_keeps_accounts h fun _ _ => .onRobot fun _ _ => by split <;> simp
  | requestWork _ _ => exact execRequestWork_keeps_accounts h
  | fetchOrders _ => exact request_keeps_accounts h fun _ _ => by simp
  | enroll _ _ _ => exact request_keeps_accounts h fun _ _ => .onRow (.onRobot fun _ _ => by split <;> simp)
  | withdraw _ _ => exact request_keeps_accounts h fun _ _ => .onRobot fun _ _ => by split <;> simp
  | robotStatus _ _ _ _ _ => exact request_keeps_accounts h fun _ _ => .onRobot fun _ _ => by split <;> simp
  | fleetReset _ => exact request_keeps_accounts h fun _ _ => by simp
  | braced _ _ => exact request_keeps_accounts h fun _ _ => .onRobot fun _ _ => by split_ifs <;> simp
  | unbraced _ _ => exact request_keeps_accounts h fun _ _ => .onRobot fun _ _ => by split_ifs <;> simp
  | transfer _ _ _ => exact execTransfer_keeps_accounts h
  | clearShuttle _ _ => exact execClearShuttle_keeps_accounts h
  | linkResume _ => exact request_keeps_accounts h fun _ _ => by split <;> simp
  | unknownRequest _ _ => exact execUnknownRequest_keeps_accounts h
  | fetch _ _ => exact execFetch_keeps_accounts h
  | portReset _ => exact execPortReset_keeps_accounts h
  | statusRead _ _ => exact awake_keeps_accounts h fun h => by cases h; exact .beside (by simp) (by simp) (by simp)
  | truncatedFrame _ => exact awake_keeps_accounts h fun h => by cases h; exact .beside (by simp) (by simp) (by simp)
  | resetnAsserted => cases h; exact .beside
  | contendAsserted => exact execContendAsserted_keeps_accounts h
  | contendDeasserted => cases h; exact .beside
  | mastPulse m => exact awake_keeps_accounts h fun h => by cases h; cases m <;> exact .beside
  | mastStep => exact execMastStep_keeps_accounts h
  | pollDue _ => exact awake_keeps_accounts h fun h => by cases h; exact .blk _ _
  | transactionStart => exact awake_keeps_accounts h fun h => by cases h; exact .blk _ _
  | transactionCompletion _ => exact awake_keeps_accounts h event_keeps_accounts
  | holdConfirmExpiry _ => exact expiry_keeps_accounts h
  | holdLimitExpiry _ => exact expiry_keeps_accounts h
  | shuttleStepExpiry _ => exact expiry_keeps_accounts h
  | parkDeadlineExpiry => exact expiry_keeps_accounts h
  | calmHoldoffExpiry => exact expiry_keeps_accounts h

/-! ## The commands that open the LIVE bank -/

/-- Every total and count of a bank is 0. -/
abbrev Bank.Zero (x : Bank) : Prop :=
  x.loss = 0 ∧ x.gain = 0 ∧ x.recovered = 0 ∧ x.holdCost = 0 ∧ x.stormSeconds = 0 ∧ x.reports = 0 ∧ x.lowLight = 0

theorem Bank.opened_zero (now : FarmSecond) : (Bank.opened now).Zero := ⟨rfl, rfl, rfl, rfl, rfl, rfl, rfl⟩

/-- The accumulators of every row and of both banks are 0. -/
structure AccountsZero (t : State) : Prop where
  rows   : ∀ r, (t.env.row r).loss = 0 ∧ (t.env.row r).recovered = 0
  live   : t.live.Zero
  closed : t.closed.bank.Zero

/-- From `s` to `t` the LIVE bank becomes the CLOSED bank, and a new LIVE bank is opened (R142). -/
structure PeriodClosed (s t : State) : Prop where
  rows   : t.env = s.env
  live   : t.live.Zero
  closed : t.closed.bank = s.live

theorem execPowerOn_accounts (h : execPowerOn s = .next t) : AccountsZero t := by
  cases h
  refine ⟨fun r => ?_, Bank.opened_zero 0, Bank.opened_zero 0⟩
  have fresh : Env.fresh.row r = RowData.fresh := Vector.getElem_replicate ..
  show (Env.fresh.row r).loss = 0 ∧ (Env.fresh.row r).recovered = 0
  rw [fresh]
  exact ⟨rfl, rfl⟩

theorem execResetAccounts_accounts (h : execResetAccounts f s = .next t) : AccountsKept zeroed s t ∨ AccountsZero t := by
  refine (request_accounts h).imp_right fun ⟨u, a, served, replied⟩ => ?_
  cases served
  subst replied
  refine ⟨fun r => ?_, by rw [State.reply_live]; exact Bank.opened_zero _, by rw [State.reply_closed]; exact Bank.opened_zero _⟩
  rw [State.reply_env, row_of_mapAll (t := (s.taken f).resetAccounts) rfl r]
  exact ⟨rfl, rfl⟩

theorem execClosePeriod_accounts (h : execClosePeriod f s = .next t) : AccountsKept zeroed s t ∨ PeriodClosed s t := by
  refine (request_accounts h).imp_right fun ⟨u, a, served, replied⟩ => ?_
  cases served
  subst replied
  exact ⟨by simp [State.closePeriod], by rw [State.reply_live]; exact Bank.opened_zero _, by simp [State.closePeriod]⟩

/-- Every command on the accumulators: they are kept, or the command sets them all to zero or closes the period. -/
theorem exec_accounts (i : Instr) (figures : s.FiguresInRange) (banks : s.BanksInRange) (h : exec i s = .next t) :
    AccountsKept (ZeroesRow i s.blk) s t ∨ ((i = .powerOn ∨ ∃ f, i = .resetAccounts f) ∧ AccountsZero t)
      ∨ ((∃ f, i = .closePeriod f) ∧ PeriodClosed s t) := by
  by_cases opens : OpensBank i
  · obtain rfl | ⟨f, rfl⟩ | ⟨f, rfl⟩ := opens
    · exact .inr (.inl ⟨.inl rfl, execPowerOn_accounts h⟩)
    · exact (execResetAccounts_accounts h).imp_right fun zero => .inl ⟨.inr ⟨f, rfl⟩, zero⟩
    · exact (execClosePeriod_accounts h).imp_right fun closed => .inr ⟨⟨f, rfl⟩, closed⟩
  · exact .inl (exec_keeps_accounts i figures banks opens h)

/-- Settles O56, by the three ways of `exec_accounts`. -/
theorem noAccumulatorDecreases : Obligations.NoAccumulatorDecreases := by
  unfold Obligations.NoAccumulatorDecreases
  intro c s t figures banks h reset close
  obtain ⟨rows, live, closed⟩ | ⟨cause, rows, live, closed⟩ | ⟨cause, rows, live, closed⟩ := exec_accounts c figures banks h
  · exact ⟨fun r => (rows r).imp_right fun ⟨loss, recovered, zeroed⟩ => ⟨loss, recovered, .inr zeroed⟩, .inl live, .inl closed⟩
  · exact ⟨fun r => .inr ⟨(rows r).1, (rows r).2, .inl cause⟩, .inr ⟨.inl cause, live⟩, .inr (.inr ⟨cause, closed⟩)⟩
  · exact ⟨fun r => .inl (rows ▸ ⟨le_rfl, le_rfl⟩), .inr ⟨.inr cause, live⟩, .inr (.inl ⟨cause, closed⟩)⟩

end Sys2Proof.Machine
end

section
/-! PROOF. CLOSE PERIOD (R142), RESET ACCOUNTS (R146), READ LIVE (R145) and READ PERIOD (R144): the effects on the two banks, and
the fields of the replies with the plant attention set (R149). -/

namespace Sys2Proof.Machine

open Sys2Proof

variable {s : State} {f : Frame} {x : Bank}

/-! ## What the commands leave -/

/-- The port side of a taken request leaves the plant attention set as it stands (R148). -/
theorem State.taken_plantItemBytes (s : State) (f : Frame) : (s.taken f).plantItemBytes = s.plantItemBytes := by
  have replies : (s.taken f).plant.replies = s.plant.replies := s.taken_replies f .plant
  simp only [State.plantItemBytes, State.plantItems, State.taken_closed, State.taken_blk, State.taken_env, replies]

theorem flagByte_not (x : Bool) : flagByte (!x) = if x then 0 else 1 := by cases x <;> rfl

/-- A reply and a change of the environment and the banks commute. -/
theorem answered_env_banks (q : Request) (f : Frame) (a : Answer) (s : State) (e : Env) (live : Bank) (closed : ClosedBank) :
    ({ s.taken f with env := e, live := live, closed := closed }).reply f q.kind a =
      { answered q f a s with env := e, live := live, closed := closed } := by
  unfold answered State.reply
  cases f.port <;> rfl

theorem execClosePeriod_taken (taken : Taken .closePeriod f s) :
    exec (.closePeriod f) s = .next
      { answered .closePeriod f
          { code := .ok, payload := (if s.closed.read then 0 else 1) :: bytesOf 4 s.env.now.toNat } s with
        closed := { bank := s.live, close := s.env.now, read := false }, live := Bank.opened s.env.now } := by
  unfold exec
  refine (request_answered taken rfl).trans (congrArg _ ?_)
  have moved := answered_env_banks .closePeriod f
    { code := .ok, payload := (if s.closed.read then 0 else 1) :: bytesOf 4 s.env.now.toNat } s s.env (Bank.opened s.env.now)
    { bank := s.live, close := s.env.now, read := false }
  simpa [answered, State.closePeriod, flagByte_not] using moved

theorem execResetAccounts_taken (taken : Taken .resetAccounts f s) :
    exec (.resetAccounts f) s = .next
      { answered .resetAccounts f { code := .ok, payload := [if s.closed.read then 0 else 1] } s with
        live := Bank.opened s.env.now, closed := { bank := Bank.opened s.env.now, close := s.env.now, read := true }
        env := { s.env with data := mapAll s.env.data fun _ d => d.clearAccounts } } := by
  unfold exec
  refine (request_answered taken rfl).trans (congrArg _ ?_)
  rw [State.resetAccounts, State.taken_env, State.taken_closed, flagByte_not]
  exact answered_env_banks ..

theorem execReadLive_taken (taken : Taken .readLive f s) :
    exec (.readLive f) s = .next (answered .readLive f
      { code := .ok
        payload := s.live.bytes ++ [flagByte s.live.saturated] ++ bytesOf 4 s.env.now.toNat ++ s.plantItemBytes } s) := by
  unfold exec
  refine (request_answered taken rfl).trans ?_
  simp only [State.taken_live, State.taken_env, State.taken_plantItemBytes]
  rfl

theorem execReadPeriod_taken (taken : Taken .readPeriod f s) :
    exec (.readPeriod f) s = .next
      { answered .readPeriod f { code := .ok, payload := s.periodBytes } s with closed := { s.closed with read := true } } := by
  unfold exec
  refine (request_answered taken rfl).trans (congrArg _ ?_)
  have shown : (s.taken f).periodBytes = s.periodBytes := by
    simp only [State.periodBytes, State.taken_closed, State.taken_plantItemBytes]
  have moved := answered_env_banks .readPeriod f { code := .ok, payload := s.periodBytes } s s.env s.live
    { s.closed with read := true }
  simpa [answered, shown] using moved

/-! ## The fields of a bank (R137) -/

/-- The fields of a bank stand at the head of a reply in the order of R137, each with its width (R186). -/
theorem fieldAt_bank (h : x.InRange) (rest : List Byte) :
    fieldAt (x.bytes ++ rest) 0 6 = x.loss ∧ fieldAt (x.bytes ++ rest) 6 6 = x.gain
      ∧ fieldAt (x.bytes ++ rest) 12 6 = x.recovered ∧ fieldAt (x.bytes ++ rest) 18 6 = x.holdCost
      ∧ fieldAt (x.bytes ++ rest) 24 4 = x.stormSeconds ∧ fieldAt (x.bytes ++ rest) 28 2 = x.reports
      ∧ fieldAt (x.bytes ++ rest) 30 2 = x.lowLight ∧ fieldAt (x.bytes ++ rest) 32 4 = x.start.toNat := by
  obtain ⟨loss, gain, recovered, holdCost, storm, reports, lowLight⟩ := h
  exact ⟨fieldAt_number rfl (by omega), fieldAt_number rfl (by omega), fieldAt_number rfl (by omega),
    fieldAt_number rfl (by omega), fieldAt_number rfl (by omega), fieldAt_number rfl (by omega),
    fieldAt_number rfl (by omega), fieldAt_number rfl x.start.isLt⟩

/-- The plant attention set as the statement lists it (R148, R149; log entry 10). -/
theorem plantItemBytes_eq (s : State) :
    s.plantItemBytes =
      [if s.closed.read then 0 else 1, if s.plant.replies.any Reply.isCompletion then 1 else 0,
        if s.blk.weatherChanged then 1 else 0, if s.blk.linkFaultItem then 1 else 0,
        if 0 < fleetResetLocks s.env s.blk then 1 else 0] ++ bytesOf 2 (fleetResetLocks s.env s.blk) := by
  simp only [State.plantItemBytes, State.plantItems, flagByte_not, flagByte_decide]
  rfl

/-! ## The statement -/

/-- Settles O44: the four commands as their lemmas give them; in the replies the fields of the bank stand first (`fieldAt_bank`) and
the plant attention set last (`plantItemBytes_eq`). -/
theorem banksAreClosedResetAndRead : Obligations.BanksAreClosedResetAndRead := by
  unfold Obligations.BanksAreClosedResetAndRead
  refine ⟨fun f s taken => execClosePeriod_taken taken,
    fun f s taken => ⟨_, execResetAccounts_taken taken, rfl, Env.row_mapAll s.env _⟩, fun f s taken inRange => ?_,
    fun f s taken inRange => ?_⟩
  · refine ⟨_, execReadLive_taken taken, ?_⟩
    rw [List.append_assoc, List.append_assoc]
    refine ⟨fieldAt_bank inRange _, (fieldAt_byte rfl).trans (flagByte_toNat _), fieldAt_number rfl s.env.now.isLt, ?_⟩
    exact plantItemBytes_eq s
  · refine ⟨_, execReadPeriod_taken taken, ?_⟩
    rw [State.periodBytes, List.append_assoc, List.append_assoc]
    refine ⟨fieldAt_bank inRange _, fieldAt_number rfl s.closed.close.isLt, (fieldAt_byte rfl).trans (flagByte_toNat _),
      (fieldAt_byte rfl).trans (flagByte_toNat _), ?_⟩
    exact plantItemBytes_eq s

end Sys2Proof.Machine
end

section
/-! PROOF. The rules that leave the weather state and STOWD as they stand (R162): those of the holds, the rounds, the transfers and
the robots. -/

namespace Sys2Proof.Machine

open Sys2Proof

variable {e : Env} {b c : Block}

/-- The weather state and the STOWD output of `c` are those of `b`. -/
@[simp] abbrev SameWeather (b c : Block) : Prop := c.weather = b.weather ∧ c.stowd = b.stowd

/-- The rule leaves the weather state and STOWD as they stand in `b`, and none of its hand-ons asserts STOWD. -/
@[simp] abbrev KeepsWeather (b : Block) (x : Handed) : Prop := SameWeather b x.1 ∧ HandOn.assertStowd ∉ x.2

theorem SameWeather.trans {a : Block} (h : SameWeather a b) (h' : SameWeather b c) : SameWeather a c :=
  ⟨h'.1.trans h.1, h'.2.trans h.2⟩

theorem SameWeather.agrees (h : SameWeather b c) (agrees : b.StowdAgrees) : c.StowdAgrees := by
  obtain ⟨weather, stowd⟩ := h
  rwa [Block.StowdAgrees, weather, stowd]

theorem foldl_sameWeather {α : Type} {f : Block → α → Block} (step : ∀ c x, SameWeather c (f c x)) (l : List α) (b : Block) :
    SameWeather b (l.foldl f b) := by
  induction l generalizing b with
  | nil => exact ⟨rfl, rfl⟩
  | cons x xs ih => exact (step b x).trans (ih _)

/-! ## Rounds (chapter 6) -/

@[simp] theorem classAnew_sameWeather (b : Block) (e : Env) (r : RowId) : SameWeather b (b.classAnew e r) := ⟨rfl, rfl⟩
@[simp] theorem unreserve_sameWeather (b : Block) (r : RowId) : SameWeather b (b.unreserve r) := ⟨rfl, rfl⟩
@[simp] theorem setOrder_sameWeather (b : Block) (k : RobotId) (x : Order) : SameWeather b (b.setOrder k x) := ⟨rfl, rfl⟩
@[simp] theorem setOutcome_sameWeather (b : Block) (k : RobotId) (x : RobotOutcome) : SameWeather b (b.setOutcome k x) :=
  ⟨rfl, rfl⟩
@[simp] theorem releaseOpen_sameWeather (b : Block) (rd : Round) : SameWeather b (b.releaseOpen rd) :=
  foldl_sameWeather (fun c (x : Entry) => unreserve_sameWeather c x.row) _ b
@[simp] theorem buildRound_sameWeather (b : Block) (k : RobotId) (p : RowId) (rows : List RowId) :
    SameWeather b (b.buildRound k p rows) := by
  simpa [Block.buildRound] using
    foldl_sameWeather (f := fun c r => c.modRow r fun x => { x with reservedBy := some k }) (fun _ _ => ⟨rfl, rfl⟩) rows b

@[simp] theorem discardRound_sameWeather (b : Block) (k : RobotId) : SameWeather b (b.discardRound k) := by
  unfold Block.discardRound
  split <;> simp

@[simp] theorem setEntered_sameWeather (b : Block) (k : RobotId) (r : RowId) : SameWeather b (b.setEntered k r) := by
  unfold Block.setEntered
  split <;> simp

@[simp] theorem finishRound_keepsWeather (b : Block) (k : RobotId) : KeepsWeather b (b.finishRound k) := by
  unfold Block.finishRound
  split
  · simp
  · split
    · by_cases top : (b.robot k).roundOnTop = true <;> simp [top]
    · simp

@[simp] theorem settleEntry_keepsWeather (b : Block) (k : RobotId) (r : RowId) (which : Entry → Bool) (st : EntryState)
    (why : Option SkipReason) : KeepsWeather b (b.settleEntry k r which st why) := by
  unfold Block.settleEntry
  split
  · simp
  · split <;> simp

@[simp] theorem settleFailed_keepsWeather (b : Block) (k : RobotId) (dest : Dest) (why : FailReason) :
    KeepsWeather b (b.settleFailed k dest why) := by
  unfold Block.settleFailed
  split
  · simp
  · split
    · split <;> simp
    all_goals simp

/-! ## Holds (chapter 2) -/

@[simp] theorem stowRelease_sameWeather (b : Block) (r : RowId) : SameWeather b (b.stowRelease r) := ⟨rfl, rfl⟩
@[simp] theorem claimRow_sameWeather (e : Env) (k : RobotId) (r : RowId) (b : Block) : SameWeather b (b.claimRow e k r) :=
  ⟨rfl, rfl⟩

@[simp] theorem grantHold_sameWeather (e : Env) (k : RobotId) (r : RowId) (b : Block) : SameWeather b (b.grantHold e k r) := by
  simp [Block.grantHold]

@[simp] theorem afterUnstow_sameWeather (b : Block) (r : RowId) : SameWeather b (b.afterUnstow r) := by
  unfold Block.afterUnstow
  dsimp only
  split
  · simp
  · split <;> simp

@[simp] theorem restoreRow_sameWeather (e : Env) (b : Block) (r : RowId) : SameWeather b (b.restoreRow e r) := by
  unfold Block.restoreRow
  split <;> simp

@[simp] theorem brace_sameWeather (k : RobotId) (b : Block) : SameWeather b (b.brace k) := by
  unfold Block.brace
  dsimp only
  split
  · split <;> simp
  · simp

@[simp] theorem unbrace_keepsWeather (k : RobotId) (b : Block) : KeepsWeather b (b.unbrace k) := by
  unfold Block.unbrace
  split <;> simp

@[simp] theorem endClaim_keepsWeather (k : RobotId) (r : RowId) (fault : Bool) (b : Block) :
    KeepsWeather b (b.endClaim k r fault) := by
  simp [Block.endClaim]

@[simp] theorem holdConfirmExpired_keepsWeather (k : RobotId) (b : Block) : KeepsWeather b (holdConfirmExpired k b) := by
  unfold holdConfirmExpired
  split <;> simp

@[simp] theorem holdLimitExpired_keepsWeather (k : RobotId) (b : Block) : KeepsWeather b (holdLimitExpired k b) := by
  unfold holdLimitExpired
  split
  · dsimp only
    split <;> simp
  · simp

@[simp] theorem rowFaulted_keepsWeather (r : RowId) (b : Block) : KeepsWeather b (rowFaulted r b) := by
  unfold rowFaulted
  split
  · simp
  · split <;> simp

@[simp] theorem exitRow_keepsWeather (e : Env) (k : RobotId) (r : RowId) (b : Block) : KeepsWeather b (b.exitRow e k r) := by
  unfold Block.exitRow
  dsimp only
  split <;> simp

/-! ## Transfers (chapter 4) -/

@[simp] theorem placeStatus_sameWeather (b : Block) (s : ShuttleId) : SameWeather b (b.placeStatus s) := by
  simp [Block.placeStatus]

@[simp] theorem discardFlight_sameWeather (b : Block) (s : ShuttleId) : SameWeather b (b.discardFlight s) := by
  simp [Block.discardFlight_eq]

@[simp] theorem faultShuttle_sameWeather (b : Block) (s : ShuttleId) (why : ShuttleCause) :
    SameWeather b (b.faultShuttle s why) := ⟨rfl, rfl⟩

@[simp] theorem makeLocal_sameWeather (b : Block) (s : ShuttleId) : SameWeather b (b.makeLocal s) := by
  simp [Block.makeLocal]

@[simp] theorem makeOffline_sameWeather (b : Block) (s : ShuttleId) : SameWeather b (b.makeOffline s) := by
  simp [Block.makeOffline]

@[simp] theorem takePoll_sameWeather (b : Block) (s : ShuttleId) : SameWeather b (b.takePoll s) := by
  unfold Block.takePoll
  split <;> simp

/-- An accepted request for a transfer changes a row, a robot and a queue (R67). -/
theorem askTransfer_sameWeather {origin : Origin} {k : RobotId} {dest : Dest} {s : ShuttleId} {g : Tag}
    (h : askTransfer e b origin k dest = .ok (c, s, g)) : SameWeather b c := by
  obtain ⟨src, -, rfl⟩ := askTransfer_ok h
  cases dest <;> exact ⟨rfl, rfl⟩

@[simp] theorem startStep_sameWeather (e : Env) (s : ShuttleId) (t : Transfer) (x : RunStep) (b : Block) :
    SameWeather b (b.startStep e s t x) := by
  unfold Block.startStep
  dsimp only
  split <;> split <;> simp

@[simp] theorem releaseDest_sameWeather (b : Block) (t : Transfer) : SameWeather b (b.releaseDest t) := by
  unfold Block.releaseDest
  split <;> simp

@[simp] theorem removeRecord_sameWeather (b : Block) (s : ShuttleId) (t : Transfer) : SameWeather b (b.removeRecord s t) := by
  unfold Block.removeRecord
  dsimp only
  split <;> simp

@[simp] theorem failParts_sameWeather (b : Block) (s : ShuttleId) (t : Transfer) (why : FailReason) :
    SameWeather b (b.failParts s t why) := by
  simp [Block.failParts]

@[simp] theorem nothingToTake_keepsWeather (b : Block) (k : RobotId) : KeepsWeather b (b.nothingToTake k) := by
  unfold Block.nothingToTake
  split <;> simp

@[simp] theorem failHandOn_keepsWeather (b : Block) (t : Transfer) (why : FailReason) : KeepsWeather b (b.failHandOn t why) := by
  unfold Block.failHandOn
  split
  · simp
  · split
    · simp
    · by_cases storm : why = .storm <;> simp [storm]
  · simp
  all_goals split <;> simp

@[simp] theorem failTransfer_keepsWeather (b : Block) (s : ShuttleId) (t : Transfer) (why : FailReason) :
    KeepsWeather b (b.failTransfer s t why) := by
  simp [Block.failTransfer]

@[simp] theorem failQueued_keepsWeather (b : Block) (s : ShuttleId) (g : Tag) (why : FailReason) :
    KeepsWeather b (b.failQueued s g why) := by
  unfold Block.failQueued
  split
  · split <;> simp
  · simp

@[simp] theorem removeQueued_keepsWeather (b : Block) (k : RobotId) : KeepsWeather b (b.removeQueued k) := by
  unfold Block.removeQueued
  split
  · split <;> simp
  · simp

@[simp] theorem offerWork_keepsWeather (e : Env) (s : ShuttleId) (b : Block) : KeepsWeather b (b.offerWork e s) := by
  unfold Block.offerWork
  dsimp only
  split
  · split
    · simp
    · split <;> simp
  · simp

@[simp] theorem shuttleStepExpired_keepsWeather (s : ShuttleId) (b : Block) : KeepsWeather b (shuttleStepExpired s b) := by
  unfold shuttleStepExpired Block.failTag
  dsimp only
  split
  · split <;> simp
  · simp

/-! ## Hand-ons of rounds, charges and robots (chapters 3 and 6) -/

@[simp] theorem startEntries_keepsWeather (e : Env) (k : RobotId) (p : RowId) (n : Nat) (rd : Round) (b : Block) :
    KeepsWeather b (startEntries e k p n rd b).2 := by
  induction n generalizing rd b with
  | zero => simp [startEntries]
  | succ n ih =>
    have skipped (r : RowId) (rd : Round) : KeepsWeather b (startEntries e k p n rd (b.unreserve r)).2 := by
      simpa using ih rd (b.unreserve r)
    unfold startEntries
    split
    · simp
    · split
      · exact skipped _ _
      · split
        · split
          · simp
          · exact skipped _ _
        · split
          · next hask => exact ⟨askTransfer_sameWeather hask, by simp⟩
          · exact skipped _ _

/-- Only the entry that R104 starts gives a hand-on, beside the round's completion. -/
@[simp] theorem handToRound_keepsWeather (e : Env) (k : RobotId) (b : Block) : KeepsWeather b (handToRound e k b).2 := by
  unfold handToRound
  split
  · next p rd _ _ =>
    split
    · dsimp only
      have released := foldl_sameWeather (fun c (x : Entry) => unreserve_sameWeather c x.row)
        (rd.entries.filter fun x => x.state == .active && x.entered) b
      split
      · simpa using released
      · split
        · simpa using released
        · simpa using released
    · simp
  · simp

@[simp] theorem chargePlan_keepsWeather (e : Env) (k : RobotId) (b : Block) : KeepsWeather b (chargePlan e k b) := by
  unfold chargePlan
  split
  · simp
  · dsimp only
    split
    · simp
    · split
      · simp
      · split
        · simp
        · split
          · next hask => simpa using askTransfer_sameWeather hask
          · simp

@[simp] theorem chargeTop_keepsWeather (e : Env) (k : RobotId) (b : Block) : KeepsWeather b (chargeTop e k b) := by
  unfold chargeTop
  split <;> simp

@[simp] theorem chargePop_keepsWeather (e : Env) (k : RobotId) (b : Block) : KeepsWeather b (chargePop e k b) := by
  unfold chargePop
  split <;> simp

@[simp] theorem chargePush_keepsWeather (e : Env) (k : RobotId) (b : Block) : KeepsWeather b (chargePush e k b) := by
  unfold chargePush
  dsimp only
  split
  · cases (b.robot k).mode
    case idle => cases (b.robot k).location <;> simp
    all_goals simp
  · simp

@[simp] theorem chargeRetry_keepsWeather (e : Env) (k : RobotId) (b : Block) : KeepsWeather b (chargeRetry e k b) := by
  unfold chargeRetry
  dsimp only
  split
  · split
    · split <;> simp
    · simp
  · simp

@[simp] theorem comeToRest_keepsWeather (e : Env) (k : RobotId) (b : Block) : KeepsWeather b (comeToRest e k b) := by
  unfold comeToRest
  dsimp only
  split
  · simp
  · split <;> simp

@[simp] theorem giveTop_keepsWeather (k : RobotId) (b : Block) : KeepsWeather b (giveTop k b) := by
  unfold giveTop
  dsimp only
  split <;> simp

@[simp] theorem faultReport_keepsWeather (k : RobotId) (b : Block) : KeepsWeather b (faultReport k b) := by
  unfold faultReport
  split <;> simp

@[simp] theorem clearReport_keepsWeather (k : RobotId) (b : Block) : KeepsWeather b (clearReport k b) := by
  unfold clearReport
  split <;> simp

@[simp] theorem robotReport_keepsWeather (k : RobotId) (battery : Byte) (fault : Bool) (ack : Option RowId) (b : Block) :
    KeepsWeather b (b.robotReport k battery fault ack) := by
  unfold Block.robotReport
  cases fault <;> simp

@[simp] theorem enroll_sameWeather (k : RobotId) (r : RowId) (b : Block) : SameWeather b (b.enroll k r) := ⟨rfl, rfl⟩

@[simp] theorem withdraw_sameWeather (k : RobotId) (b : Block) : SameWeather b (b.withdraw k) := by
  unfold Block.withdraw
  dsimp only
  split <;> simp

@[simp] theorem fleetReset_sameWeather (e : Env) (b : Block) : SameWeather b (b.fleetReset e) := by
  rw [fleetReset_frame]
  exact ⟨rfl, rfl⟩

end Sys2Proof.Machine
end

section
/-! PROOF. The rules of the link and of the park plan leave the weather state and STOWD as they stand (R162). -/

namespace Sys2Proof.Machine

open Sys2Proof

variable {e : Env} {b c : Block}

/-! ## Completions (chapters 4 and 5) -/

@[simp] theorem boarded_sameWeather (b : Block) (s : ShuttleId) (t : Transfer) : SameWeather b (b.boarded s t) := by
  unfold Block.boarded
  dsimp only
  split <;> simp

@[simp] theorem doneParts_sameWeather (b : Block) (s : ShuttleId) (t : Transfer) : SameWeather b (b.doneParts s t) := by
  unfold Block.doneParts
  dsimp only
  split <;> simp

@[simp] theorem transferDone_keepsWeather (b : Block) (s : ShuttleId) (t : Transfer) : KeepsWeather b (b.transferDone s t) := by
  cases h : t.dest <;> simp [Block.transferDone, h]

@[simp] theorem completeStep_keepsWeather (e : Env) (s : ShuttleId) (t : Transfer) (x : RunStep) (b : Block) :
    KeepsWeather b (b.completeStep e s t x) := by
  unfold Block.completeStep
  cases x with
  | moveToSource | loading | unloading => simp
  | moveToDest =>
    dsimp only
    split <;> simp

@[simp] theorem steppingStatus_keepsWeather (e : Env) (s : ShuttleId) (counts : Bool) (st : Status) (b : Block) :
    KeepsWeather b (steppingStatus e s counts st b) := by
  unfold steppingStatus
  split
  · split <;> simp
  · split
    · simp
    · split
      · split <;> simp
      all_goals simp

@[simp] theorem idleStatus_keepsWeather (s : ShuttleId) (st : Status) (b : Block) : KeepsWeather b (idleStatus s st b) := by
  unfold idleStatus
  split
  · simp
  · split <;> simp

@[simp] theorem reconcileLoaded_keepsWeather (e : Env) (s : ShuttleId) (t : Transfer) (st : Status) (b : Block) :
    KeepsWeather b (b.reconcileLoaded e s t st) := by
  unfold Block.reconcileLoaded
  extract_lets k b1 b2
  have aboard : SameWeather b b2 := by
    have left : SameWeather b b1 := by
      dsimp only [b1]
      split <;> simp
    exact left
  clear_value b2
  split
  · next kept b3 _ =>
    have ordered : SameWeather b b3 := by
      dsimp only [b3]
      split <;> simpa using aboard
    refine ⟨ordered, ?_⟩
    dsimp only
    split <;> simp
  · split <;> simpa using aboard

@[simp] theorem reconcileEmpty_sameWeather (e : Env) (t : Transfer) (x : RunStep) (st : Status) (before c : Block) :
    SameWeather c (reconcileEmpty e t x st before c) := by
  unfold reconcileEmpty
  dsimp only
  split
  iterate 2 simp
  all_goals split <;> simp

@[simp] theorem reconcile_keepsWeather (e : Env) (s : ShuttleId) (t : Transfer) (x : RunStep) (st : Status) (b : Block) :
    KeepsWeather b (reconcile e s t x st b) := by
  unfold reconcile
  dsimp only
  split <;> simp

@[simp] theorem reconcileRound_keepsWeather (b : Block) (t : Transfer) : KeepsWeather b (b.reconcileRound t) := by
  unfold Block.reconcileRound
  split <;> simp

@[simp] theorem reconcileHandOn_keepsWeather (b : Block) (t : Transfer) : KeepsWeather b (b.reconcileHandOn t) := by
  unfold Block.reconcileHandOn
  dsimp only
  split
  · simp
  · split <;> simp

@[simp] theorem settleShuttle_sameWeather (b : Block) (s : ShuttleId) (load : Option RobotId) :
    SameWeather b (b.settleShuttle s load) := ⟨rfl, rfl⟩

@[simp] theorem firstStatusChecks_keepsWeather (s : ShuttleId) (st : Status) (b : Block) :
    KeepsWeather b (firstStatusChecks s st b) := by
  unfold firstStatusChecks
  split
  · simp
  · split
    · split
      · simp
      · split
        · refine ⟨by simp, ?_⟩
          dsimp only
          split
          · split <;> simp
          · simp
        · simp
    · split
      · refine ⟨by simp, ?_⟩
        dsimp only
        split <;> simp
      · simp

@[simp] theorem firstStatus_keepsWeather (e : Env) (s : ShuttleId) (st : Status) (b : Block) :
    KeepsWeather b (firstStatus e s st b) := by
  unfold firstStatus
  split <;> simp

@[simp] theorem commandDone_sameWeather (e : Env) (s : ShuttleId) (b : Block) : SameWeather b (commandDone e s b) := by
  unfold commandDone
  split <;> simp

@[simp] theorem statusDone_keepsWeather (e : Env) (s : ShuttleId) (counts : Bool) (d : StatusBytes) (b : Block) :
    KeepsWeather b (statusDone e s counts d b) := by
  unfold statusDone
  cases readStatus (b.shuttle s) d with
  | none =>
    dsimp only
    split <;> simp
  | some v =>
    dsimp only
    split
    · simp
    · split <;> simp

@[simp] theorem completeTransaction_keepsWeather (e : Env) (d : StatusBytes) (b : Block) :
    KeepsWeather b (completeTransaction e d b) := by
  unfold completeTransaction
  split
  · simp
  · dsimp only
    split
    · simp
    · split <;> simp

@[simp] theorem latch_sameWeather (b : Block) : SameWeather b b.latch := ⟨rfl, rfl⟩

@[simp] theorem startTransaction_sameWeather (e : Env) (contend : Bool) (b : Block) :
    SameWeather b (b.startTransaction e contend) := by
  unfold Block.startTransaction
  split
  · split
    · simp
    · split
      · simp
      · dsimp only
        split <;> simp
  · simp

@[simp] theorem resumeLink_sameWeather (b : Block) : SameWeather b b.resumeLink :=
  SameWeather.trans (b := { b with link := { b.link with enabled := true } }) ⟨rfl, rfl⟩
    (foldl_sameWeather placeStatus_sameWeather _ _)

/-! ## The park plan and the park deadline (R168 to R172) -/

@[simp] theorem stand_sameWeather (b : Block) (k : RobotId) (st : Standing) : SameWeather b (b.stand k st) := ⟨rfl, rfl⟩
@[simp] theorem orderBrace_sameWeather (b : Block) (k : RobotId) : SameWeather b (b.orderBrace k) := ⟨rfl, rfl⟩

@[simp] theorem noPlace_sameWeather (b : Block) (k : RobotId) : SameWeather b (b.noPlace k) := by
  unfold Block.noPlace
  split <;> simp

@[simp] theorem seekPlace_keepsWeather (e : Env) (k : RobotId) (p : Option RowId) (via : Option ShuttleId) (garage : Bool)
    (b : Block) : KeepsWeather b (seekPlace e k p via garage b) := by
  unfold seekPlace
  split
  · simp
  · split
    · simp
    · extract_lets place
      cases place with
      | none => simp
      | some d =>
        dsimp only
        split
        · next hask => simpa using askTransfer_sameWeather hask
        · simp
        · simp

/-- The mark of a robot that stays on its row in a storm (R169). -/
theorem strandIf_sameWeather (late : Bool) (r : RowId) (b : Block) :
    SameWeather b (if late = true then b.modRow r RowState.strand else b) := by
  split <;> simp

@[simp] theorem planRobot_keepsWeather (e : Env) (k : RobotId) (b : Block) : KeepsWeather b (planRobot e k b) := by
  unfold planRobot
  extract_lets x late
  split
  · simp
  · split
    · simp
    · split
      · simp
      · split
        · simp
        · generalize x.mode = mode
          cases x.location with
          | carried u => cases mode <;> simp
          | rowEnd r =>
            cases mode
            case idle =>
              dsimp only
              split <;> simp
            all_goals simp
          | onRow r =>
            cases mode
            case onRow =>
              dsimp only
              split <;> simpa using strandIf_sameWeather late r b
            case faulted => simpa using strandIf_sameWeather late r b
            all_goals simp
          | nowhere | unknown => cases mode <;> simp

@[simp] theorem parkPass_silent (b : Block) : HandOn.assertStowd ∉ parkPass b := by
  unfold parkPass
  split <;> simp

@[simp] theorem deadlinePlace_sameWeather (b : Block) (k : RobotId) : SameWeather b (b.deadlinePlace k) := by
  unfold Block.deadlinePlace
  split
  iterate 5 simp
  · split <;> simp
  all_goals simp

@[simp] theorem deadlineRobot_keepsWeather (e : Env) (k : RobotId) (b : Block) : KeepsWeather b (deadlineRobot e k b) := by
  unfold deadlineRobot
  dsimp only
  split
  · simp
  · split
    · split
      · split <;> simp
      · simp
    · simp

@[simp] theorem parkDeadlineExpired_keepsWeather (b : Block) : KeepsWeather b (parkDeadlineExpired b) := by
  simp [parkDeadlineExpired]

@[simp] theorem calmRobot_keepsWeather (k : RobotId) (b : Block) : KeepsWeather b (calmRobot k b) := by
  unfold calmRobot
  dsimp only
  split
  · refine ⟨⟨rfl, rfl⟩, ?_⟩
    dsimp only
    split
    · split <;> simp
    · split <;> simp
  · simp

end Sys2Proof.Machine
end

section
/-! PROOF. STOWD through an event (R162, R175, R176): it is asserted in STOW, or STOW has been entered and a hand-on that asserts
it still waits. -/

namespace Sys2Proof.Machine

open Sys2Proof

variable {e : Env} {b c : Block}

/-- STOWD is asserted, or one of the hand-ons that wait asserts it, in STOW and in no other weather state. -/
def StowdComes (ts : List HandOn) (b : Block) : Prop := (b.stowd = true ∨ HandOn.assertStowd ∈ ts) ↔ b.weather = .stow

/-- With no hand-on that asserts it, STOWD agrees with the weather state as it stands. -/
theorem stowdComes_silent {ts : List HandOn} (silent : HandOn.assertStowd ∉ ts) : StowdComes ts b ↔ b.StowdAgrees := by
  simp [StowdComes, silent]

/-- Of the block it reads the weather state and STOWD, and of the hand-ons whether one asserts STOWD. -/
theorem StowdComes.congr {ts us : List HandOn} (h : StowdComes ts b) (same : SameWeather b c)
    (waits : HandOn.assertStowd ∈ us ↔ HandOn.assertStowd ∈ ts) : StowdComes us c := by
  obtain ⟨weather, stowd⟩ := same
  unfold StowdComes at *
  rwa [weather, stowd, waits]

/-! ## Every hand-on -/

/-- CALM entry takes place outside STOW, and asserts no STOWD (R178). -/
theorem enterCalm_comes {rest : List HandOn} (h : StowdComes rest b) (outside : b.weather ≠ .stow) :
    StowdComes (b.enterCalm.2 ++ rest) b.enterCalm.1 := by
  have off : ¬ (b.stowd = true ∨ HandOn.assertStowd ∈ rest) := fun on => outside (h.mp on)
  simpa [StowdComes, Block.enterCalm, Block.setWeather] using off

/-- Beside the hand-on that asserts STOWD and the test of R177, a hand-on leaves the weather state and STOWD as they stand. -/
theorem handle_keepsWeather (x : HandOn) (stows : x ≠ .assertStowd) (tests : x ≠ .recoverTest) (b : Block) :
    KeepsWeather b (handle e x b) := by
  cases x with
  | assertStowd => exact absurd rfl stows
  | recoverTest => exact absurd rfl tests
  | rest k => exact comeToRest_keepsWeather e k b
  | giveTop k => exact giveTop_keepsWeather k b
  | chargeTop k => exact chargeTop_keepsWeather e k b
  | chargePush k => exact chargePush_keepsWeather e k b
  | chargePop k => exact chargePop_keepsWeather e k b
  | chargeRetry k => exact chargeRetry_keepsWeather e k b
  | handRound k => exact handToRound_keepsWeather e k b
  | planRobot k => exact planRobot_keepsWeather e k b
  | offer s => exact offerWork_keepsWeather e s b
  | failRecord s g why => exact failQueued_keepsWeather b s g why
  | deadlineRobot k => exact deadlineRobot_keepsWeather e k b
  | calmRobot k => exact calmRobot_keepsWeather k b
  | pass => exact ⟨⟨rfl, rfl⟩, parkPass_silent b⟩
  | pushParks | releaseRows | strandRows | clearParkWaits | wantPlan _ | wantPass | holdOffers _ | releaseOffers =>
    exact ⟨⟨rfl, rfl⟩, List.not_mem_nil⟩

theorem handle_comes (x : HandOn) {rest : List HandOn} (h : StowdComes (x :: rest) b) :
    StowdComes ((handle e x b).2 ++ rest) (handle e x b).1 := by
  by_cases stows : x = .assertStowd
  · subst stows
    have inStow : b.weather = .stow := h.mp (by simp)
    simpa [StowdComes, handle] using inStow
  by_cases tests : x = .recoverTest
  · subst tests
    have rest' : StowdComes rest b := h.congr ⟨rfl, rfl⟩ (by simp)
    show StowdComes ((recoverTest e b).2 ++ rest) (recoverTest e b).1
    by_cases left : b.recovered e = true
    · have inRecover : b.weather = .recover := by
        by_contra outside
        simp [recovered_weather outside] at left
      rw [show recoverTest e b = b.enterCalm from if_pos left]
      exact enterCalm_comes rest' (by simp [inRecover])
    · rw [recoverTest_fails (by simpa using left)]
      exact rest'
  · obtain ⟨same, silent⟩ := handle_keepsWeather (e := e) x stows tests b
    exact h.congr same (by simp [silent, Ne.symm stows])

/-! ## The cascade -/

/-- A hand-on that does not assert STOWD may be dropped, as the cascade drops those that only steer it. -/
theorem StowdComes.skip {x : HandOn} {rest : List HandOn} (h : StowdComes (x :: rest) b) (steers : x ≠ .assertStowd) :
    StowdComes rest b := h.congr ⟨rfl, rfl⟩ (by simp [Ne.symm steers])

theorem cascade_stowd (n : Nat) (hold : Option ShuttleId) (due : Due) (ts : List HandOn) (b : Block)
    (h : cascade e n hold due ts b = some c) (comes : StowdComes ts b) : c.StowdAgrees := by
  induction n generalizing hold due ts b with
  | zero => simp [cascade] at h
  | succ n ih =>
    cases ts with
    | nil =>
      simp only [cascade] at h
      split at h
      iterate 2
        cases h
        exact (stowdComes_silent List.not_mem_nil).mp comes
      · exact ih _ _ _ _ h (comes.congr ⟨rfl, rfl⟩ (by simp))
      · exact ih _ _ _ _ h (comes.congr ⟨rfl, rfl⟩ (by simp))
    | cons x rest =>
      cases x
      case wantPass | wantPlan | holdOffers | releaseOffers => exact ih _ _ _ _ h (comes.skip (by simp))
      case pass => exact ih _ _ _ _ h (handle_comes (e := e) .pass comes)
      case offer s =>
        simp only [cascade] at h
        split at h
        · exact ih _ _ _ _ h (comes.skip (by simp))
        · exact ih _ _ _ _ h (handle_comes (e := e) (.offer s) comes)
      all_goals exact ih _ _ _ _ h (handle_comes _ comes)

/-- Where STOWD agrees before the rule, it comes to agree after the rule's hand-ons. -/
def BringsStowd (b : Block) (x : Handed) : Prop := b.StowdAgrees → StowdComes x.2 x.1

/-- A rule that leaves the weather state and STOWD. -/
theorem KeepsWeather.brings {x : Handed} (h : KeepsWeather b x) : BringsStowd b x := by
  obtain ⟨⟨weather, stowd⟩, silent⟩ := h
  intro agrees
  rw [stowdComes_silent silent, Block.StowdAgrees, weather, stowd]
  exact agrees

/-- An event takes the rule's hand-ons to their end. -/
theorem BringsStowd.finish {x : Handed} (h : BringsStowd b x) (done : Handed.finish e x = some c) (agrees : b.StowdAgrees) :
    c.StowdAgrees := cascade_stowd _ _ _ _ _ done (h agrees)

/-- A change between weather states other than STOW. -/
theorem BringsStowd.of_outside {x : Handed} (was : b.weather ≠ .stow) (now : x.1.weather ≠ .stow)
    (stowd : x.1.stowd = b.stowd) (silent : HandOn.assertStowd ∉ x.2) : BringsStowd b x := by
  intro agrees
  rw [stowdComes_silent silent, Block.StowdAgrees, stowd]
  exact iff_of_false (fun on => was (agrees.mp on)) now

/-- STOW is entered with a hand-on that asserts STOWD (R175). -/
theorem BringsStowd.of_stow {x : Handed} (now : x.1.weather = .stow) (asserts : HandOn.assertStowd ∈ x.2) : BringsStowd b x :=
  fun _ => iff_of_true (.inr asserts) now

/-! ## Storms (chapter 10) -/

theorem enterCalm_brings (outside : b.weather ≠ .stow) : BringsStowd b b.enterCalm :=
  .of_outside outside (by simp [Block.enterCalm, Block.setWeather]) rfl (by simp [Block.enterCalm])

/-- RECOVER entry releases STOWD (R176). -/
theorem enterRecover_brings : BringsStowd b (b.enterRecover e) := by
  intro _
  simp [StowdComes, Block.enterRecover, Block.setWeather]

theorem calmHoldoffExpired_brings : BringsStowd b (calmHoldoffExpired e b) := by
  unfold calmHoldoffExpired
  split
  · next watch => exact enterCalm_brings (by simp [watch])
  iterate 2 exact enterRecover_brings
  all_goals exact KeepsWeather.brings (by simp)

/-- PARK entry waits on records that fail, on PARK tasks and on the release of rows (R167). -/
theorem enterPark_keepsWeather : KeepsWeather b (b.enterPark e) := by
  simp [Block.enterPark]

theorem ne_stow_of_rank {w : Weather} (below : w.rank < 3) : w ≠ .stow := by
  rintro rfl
  exact absurd below (by decide)

/-- A level above the weather state's rank raises it, with the hand-on that asserts STOWD where it comes to STOW (R163, R175); any
other level leaves STOW as it stands (R164, R165). -/
theorem handLevel_brings (l : Level) (filled : Bool) : BringsStowd b (handLevel e l filled b) := by
  unfold handLevel
  extract_lets b0 b1
  have same : SameWeather b b1 := by
    dsimp only [b1]
    split <;> exact ⟨rfl, rfl⟩
  clear_value b1
  obtain ⟨weather, stowd⟩ := same
  split
  · next rises =>
    cases l with
    | none => exact KeepsWeather.brings ⟨⟨weather, stowd⟩, by simp⟩
    | watch =>
      have was : b.weather ≠ .stow := ne_stow_of_rank (rises.trans (by decide))
      exact .of_outside was (by simp [Block.setWeather]) stowd (by simp)
    | park =>
      have was : b.weather ≠ .stow := ne_stow_of_rank (rises.trans (by decide))
      obtain ⟨⟨entered, stowd'⟩, silent⟩ := enterPark_keepsWeather (e := e) (b := b1.setWeather .park)
      exact .of_outside was (entered.trans_ne (by simp [Block.setWeather])) (stowd'.trans stowd) (by simp [silent])
    | stow =>
      refine .of_stow ?_ (by simp)
      dsimp only
      split
      · rfl
      · obtain ⟨⟨entered, -⟩, -⟩ := enterPark_keepsWeather (e := e) (b := b1.setWeather .stow)
        exact entered
  · split
    · next start _ =>
      split
      · exact .of_outside (by simp [start]) (by simp [Block.enterCalm, Block.setWeather]) stowd (by simp [Block.enterCalm])
      · exact KeepsWeather.brings ⟨⟨weather, stowd⟩, by simp⟩
    · next start _ =>
      split
      · exact .of_outside (by simp [start]) (by simp [Block.setWeather]) stowd (by simp)
      · exact KeepsWeather.brings ⟨⟨weather, stowd⟩, by simp⟩
    iterate 3
      split <;> exact KeepsWeather.brings ⟨⟨weather, stowd⟩, by simp⟩
    all_goals exact KeepsWeather.brings ⟨⟨weather, stowd⟩, by simp⟩

/-! ## What the tick before left (log entry 3) -/

theorem expiryRule_brings (kind : DeadlineKind) : BringsStowd b (expiryRule e kind b) := by
  cases kind with
  | holdConfirm k => exact KeepsWeather.brings (holdConfirmExpired_keepsWeather k b)
  | holdLimit k => exact KeepsWeather.brings (holdLimitExpired_keepsWeather k b)
  | shuttleStep u => exact KeepsWeather.brings (shuttleStepExpired_keepsWeather u b)
  | parkDeadline => exact KeepsWeather.brings (parkDeadlineExpired_keepsWeather b)
  | calmHoldoff => exact calmHoldoffExpired_brings

theorem handOut_stowd {n : Nat} (h : handOut e n b = some c) (agrees : b.StowdAgrees) : c.StowdAgrees := by
  induction n generalizing b with
  | zero => cases h; exact agrees
  | succ n ih =>
    unfold handOut at h
    split at h
    · cases h; exact agrees
    · next d _ =>
      obtain ⟨x, done, rest⟩ := Option.bind_eq_some_iff.mp h
      exact ih rest ((expiryRule_brings d.kind).finish (b := b.cancel d.kind) done agrees)

theorem catchUp_stowd (h : b.catchUp e = some c) (agrees : b.StowdAgrees) : c.StowdAgrees := by
  obtain ⟨x, out, rfl⟩ := Option.map_eq_some_iff.mp h
  exact (foldl_sameWeather takePoll_sameWeather _ x).agrees (handOut_stowd out agrees)

end Sys2Proof.Machine
end

section
/-! PROOF. The mast records stay in range (R151, R156, R157): what pulses, ticks and mast steps keep of one. -/

namespace Sys2Proof.Machine

open Sys2Proof

variable {x : MastRec} {n v : Nat} {w : List Nat}

/-! ## The ring and the gust window (R157) -/

theorem enterWindow_length (room : 0 < n) (h : w.length ≤ n) : (enterWindow n v w).length ≤ n := by
  unfold enterWindow
  split <;> simp <;> omega

theorem of_mem_enterWindow {q : Nat} (h : q ∈ enterWindow n v w) : q ∈ w ∨ q = v := by
  unfold enterWindow at h
  split at h
  · exact (List.mem_append.mp h).imp List.mem_of_mem_tail List.mem_singleton.mp
  · exact (List.mem_append.mp h).imp id List.mem_singleton.mp

/-- The sum of the ring without the value that leaves it and with the one that enters is the sum of the new ring. -/
theorem enterWindow_sum (v : Nat) (ring : List Nat) : (enterWindow 60 v ring).sum = ring.sum - leaving ring + v := by
  unfold enterWindow leaving
  split
  · cases ring <;> simp
  · simp

/-! ## One mast record -/

namespace MastRec.InRange

theorem fresh : MastRec.fresh.InRange := by decide

/-- The pulse counter stays within 16 bits (R152). -/
theorem pulse (h : x.InRange) : x.pulse.InRange := by
  obtain ⟨-, rest⟩ := h
  exact ⟨Nat.min_le_left _ _, rest⟩

/-- The pulse counter is held cleared (R190). -/
theorem clear (h : x.InRange) : ({ x with pulses := 0 } : MastRec).InRange := by
  obtain ⟨-, rest⟩ := h
  exact ⟨Nat.zero_le _, rest⟩

/-- The sample that a tick latches is the count of its second (R152, R153). -/
theorem latch (h : x.InRange) : x.latch.InRange := by
  obtain ⟨pulses, -, lost, rest⟩ := h
  refine ⟨Nat.zero_le _, by simpa [MastRec.latch] using pulses, ?_, rest⟩
  unfold MastRec.latch
  dsimp only
  split
  · exact Nat.min_le_left _ _
  · exact lost

/-- The speed and the health counts (R154, R155). -/
theorem count (mf c y : Nat) (h : x.InRange) : (x.count mf c y).InRange := by
  obtain ⟨pulses, -, lost, -, ringLength, ring, sum, windowLength, window, gust, -, -, -, faulted⟩ := h
  refine ⟨pulses, by simp [MastRec.count], lost, Nat.min_le_left _ _, ringLength, ring, sum, windowLength, window, gust, ?_, ?_, ?_,
    faulted⟩
  all_goals
    unfold MastRec.count
    dsimp only
    split <;> omega

/-- A mast that fails holds nothing entered (R156). -/
theorem fail (why : MastCause) (h : x.InRange) : (x.fail why).InRange := by
  obtain ⟨pulses, pending, lost, speed, -⟩ := h
  exact ⟨pulses, pending, lost, speed, by simp [MastRec.fail]⟩

/-- The health change (R156). -/
theorem settle (limit : Nat) (h : x.InRange) : (x.settle limit).InRange := by
  unfold MastRec.settle
  split
  · exact h.fail _
  · split
    · exact h.fail _
    · split
      · obtain ⟨pulses, pending, lost, speed, ringLength, ring, sum, windowLength, window, gust, -⟩ := h
        exact ⟨pulses, pending, lost, speed, ringLength, ring, sum, windowLength, window, gust, by simp⟩
      · exact h

/-- The entry of the speed into the ring, the sum, the gust window and the gust (R157). -/
theorem enter (h : x.InRange) : x.enter.InRange := by
  unfold MastRec.enter
  split
  · next healthy =>
    obtain ⟨pulses, pending, lost, speed, ringLength, ring, sum, windowLength, window, -, silence, overrun, recovery, -⟩ := h
    have square : x.speed * x.speed ≤ 1000000 := Nat.mul_le_mul speed speed
    refine ⟨pulses, pending, lost, speed, enterWindow_length (by decide) ringLength, fun q hq => ?_, ?_,
      enterWindow_length (by decide) windowLength, fun q hq => ?_, rfl, silence, overrun, recovery, by simp [healthy]⟩
    · exact (of_mem_enterWindow hq).elim (ring q) fun new => new ▸ square
    · rw [enterWindow_sum, ← sum]
    · exact (of_mem_enterWindow hq).elim (window q) fun new => new ▸ speed
  · exact h

theorem step (mf limit c y : Nat) (h : x.InRange) : (x.step mf limit c y).InRange := ((h.count mf c y).settle limit).enter

end MastRec.InRange

/-! ## Both mast records -/

/-- A step of the served mast leaves the other as it stands (R117). -/
theorem stepMast_masts {s : State} (m : Mast) (c : Nat) (h : s.MastsInRange) : (s.stepMast m c).MastsInRange := by
  obtain ⟨a, b⟩ := h
  cases m with
  | a => exact ⟨a.step _ _ _ _, b⟩
  | b => exact ⟨a, b.step _ _ _ _⟩

end Sys2Proof.Machine
end

section
/-! PROOF. Every command keeps the mast records in range and STOWD asserted in STOW only (R151, R162). -/

namespace Sys2Proof.Machine

open Sys2Proof

variable {s t u : State} {f : Frame} {a : Answer} {b : Block}

/-- From `s` to `t` the mast records stay in range, and STOWD stays agreed with the weather state, each law for itself. -/
structure WindKept (s t : State) : Prop where
  masts : s.MastsInRange → t.MastsInRange
  stowd : s.blk.StowdAgrees → t.blk.StowdAgrees

namespace WindKept

theorem trans (h : WindKept s t) (h' : WindKept t u) : WindKept s u := ⟨h'.masts ∘ h.masts, h'.stowd ∘ h.stowd⟩

/-- A change beside the mast records. -/
theorem of_stowd (stowd : s.blk.StowdAgrees → t.blk.StowdAgrees) (mastA : t.mastA = s.mastA := by rfl)
    (mastB : t.mastB = s.mastB := by rfl) : WindKept s t :=
  ⟨fun h => by rw [State.MastsInRange, mastA, mastB]; exact h, stowd⟩

/-- A change beside the mast records, the weather state and STOWD. -/
theorem beside (weather : SameWeather s.blk t.blk := by exact ⟨rfl, rfl⟩) (mastA : t.mastA = s.mastA := by rfl)
    (mastB : t.mastB = s.mastB := by rfl) : WindKept s t := of_stowd weather.agrees mastA mastB

@[simp] theorem refl (s : State) : WindKept s s := beside

/-- A rule that leaves the weather state and STOWD, on the block alone. -/
@[simp] theorem blk (h : SameWeather s.blk b) : WindKept s { s with blk := b } := beside h

@[simp] theorem modPort (s : State) (p : Port) (g : PortRec → PortRec) : WindKept s (s.modPort p g) :=
  beside (by simp) (by simp) (by simp)

@[simp] theorem shiftStatus (s : State) (p : Port) : WindKept s (s.shiftStatus p) :=
  modPort s p fun z => { z with shifted := [s.statusByte p] }
@[simp] theorem frameBits (s : State) (p : Port) (x y : Bool) : WindKept s (s.frameBits p x y) := modPort s p _
@[simp] theorem reply (s : State) (f : Frame) (kind : Byte) (a : Answer) : WindKept s (s.reply f kind a) := modPort s f.port _

@[simp] theorem taken (s : State) (f : Frame) : WindKept s (s.taken f) := (shiftStatus s f.port).trans (frameBits _ _ _ _)

end WindKept

/-! ## Events and requests -/

theorem awake_keeps_wind {go : Result} (h : awake s go = .next t) (live : go = .next t → WindKept s t) : WindKept s t := by
  unfold awake at h
  split at h
  · cases h; exact .refl s
  · exact live h

theorem event_keeps_wind {x : Handed} (brings : BringsStowd s.blk x) (h : s.event x = .next t) : WindKept s t := by
  obtain ⟨b, done, rfl⟩ := event_next h
  exact .of_stowd (brings.finish done)

theorem expiry_keeps_wind {kind : DeadlineKind} {rule : Block → Handed} (brings : ∀ b, BringsStowd b (rule b))
    (h : s.expiry kind rule = .next t) : WindKept s t := by
  refine awake_keeps_wind h fun h => ?_
  split at h
  · exact event_keeps_wind (brings (s.blk.cancel kind)) h
  · cases h; exact .refl s

/-- The rule of a request keeps the laws of the wind, whatever it answers. -/
def ServedKeepsWind (t : State) (x : Served) : Prop := ∀ u a, x = some (u, a) → WindKept t u

/-- A request keeps what its own rule keeps, in whatever state the rule is served. -/
theorem request_keeps_wind {q : Request} {body : State → Served} (h : request q f s body = .next t)
    (kept : ∀ u, ServedKeepsWind u (body u)) : WindKept s t := by
  obtain ⟨-, rfl⟩ | ⟨-, -, rfl⟩ | ⟨-, -, c, -, rfl⟩ | ⟨-, -, -, u, a, served, rfl⟩ := request_next h
  · exact .refl _
  · exact (WindKept.shiftStatus s f.port).trans (.frameBits _ _ _ _)
  · exact (WindKept.taken s f).trans (.reply _ _ _ _)
  · exact ((WindKept.taken s f).trans (kept _ u a served)).trans (.reply _ _ _ _)

namespace ServedKeepsWind

@[simp] theorem some_iff : ServedKeepsWind t (some (u, a)) ↔ WindKept t u := by simp [ServedKeepsWind]

theorem answer (h : WindKept t u) : ServedKeepsWind t (some (u, a)) := some_iff.mpr h

@[simp] theorem refuse (t : State) (c : Code) : ServedKeepsWind t (t.refuse c) := answer (.refl t)

/-- A rule on the block of `u`, with its hand-ons taken to their end. -/
theorem serve_of {x : Handed} (h : WindKept t u) (brings : BringsStowd u.blk x) : ServedKeepsWind t (u.serve x a) := by
  intro v c served
  obtain ⟨b, done, rfl, -⟩ := serve_some served
  exact h.trans (.of_stowd (brings.finish done))

/-- A rule that leaves the weather state and STOWD. -/
@[simp] theorem serve {x : Handed} (h : KeepsWeather t.blk x) : ServedKeepsWind t (t.serve x a) := serve_of (.refl t) h.brings

theorem onRow {r : RowId} {x : Served} (h : ServedKeepsWind t x) : ServedKeepsWind t (t.onRow r t.refuse x) := by
  unfold State.onRow
  split
  · exact h
  · exact refuse t _

theorem onRobot {robot : Byte} {x : RobotId → Served} (h : ∀ k, ServedKeepsWind t (x k)) :
    ServedKeepsWind t (onRobot robot t.refuse x) := by
  unfold Machine.onRobot
  split
  · exact h _
  · exact refuse t _

end ServedKeepsWind

/-! ## The masts (chapter 9) -/

theorem setMast_blk (s : State) (m : Mast) (x : MastRec) : (s.setMast m x).blk = s.blk := by cases m <;> rfl

theorem execMastPulse_keeps_wind {m : Mast} (h : execMastPulse m s = .next t) : WindKept s t := by
  refine awake_keeps_wind h fun h => ?_
  cases h
  refine ⟨fun ⟨mastA, mastB⟩ => ?_, fun agrees => by rwa [setMast_blk]⟩
  cases m with
  | a => exact ⟨mastA.pulse, mastB⟩
  | b => exact ⟨mastA, mastB.pulse⟩

theorem execMastStep_keeps_wind (h : execMastStep s = .next t) : WindKept s t := by
  refine awake_keeps_wind h fun h => ?_
  split at h
  · cases h; exact .refl s
  · next m c _ =>
    have stepped : WindKept s (s.stepMast m c) :=
      ⟨stepMast_masts m c, fun agrees => by rwa [State.stepMast, setMast_blk]⟩
    exact stepped.trans (event_keeps_wind (handLevel_brings _ _) h)

theorem execConfigure_keeps_wind {parameter : Byte} {value : BitVec 32} (h : execConfigure f parameter value s = .next t) :
    WindKept s t := by
  refine request_keeps_wind h fun u => ?_
  split
  · exact .refuse _ _
  · dsimp only
    split
    · exact .serve_of .beside (handLevel_brings _ _)
    · exact .answer .beside

theorem execReadWeather_keeps_wind (h : execReadWeather f s = .next t) : WindKept s t := by
  refine request_keeps_wind h fun u => .answer ?_
  rw [State.weatherRead_eq]
  exact .beside

/-! ## The time base and the reset pin (chapter 1, R190) -/

theorem execTick_keeps_wind (h : execTick s = .next t) : WindKept s t := by
  refine awake_keeps_wind h fun h => ?_
  split at h
  · cases h
  · next b caught =>
    cases h
    have ticked : SameWeather b (State.tick { s with blk := b }).blk := ⟨rfl, rfl⟩
    exact ⟨fun ⟨mastA, mastB⟩ => ⟨mastA.latch, mastB.latch⟩, fun agrees => ticked.agrees (catchUp_stowd caught agrees)⟩

theorem execResetnAsserted_keeps_wind (h : execResetnAsserted s = .next t) : WindKept s t := by
  cases h
  exact ⟨fun ⟨mastA, mastB⟩ => ⟨mastA.clear, mastB.clear⟩, id⟩

theorem execPowerOn_keeps_wind (h : execPowerOn s = .next t) : WindKept s t := by
  cases h
  have released : Block.fresh.StowdAgrees := by decide
  exact ⟨fun _ => ⟨.fresh, .fresh⟩, fun _ => released⟩

/-! ## Ports, reports and the row table -/

theorem execFetch_keeps_wind {p : Port} {n : Nat} (h : execFetch p n s = .next t) : WindKept s t := by
  refine awake_keeps_wind h fun h => ?_
  split at h
  · cases h; exact .shiftStatus s p
  · dsimp only at h
    split at h
    · cases h; exact (WindKept.modPort s p _).trans (.frameBits _ _ _ _)
    · split at h
      · cases h; exact ((WindKept.modPort s p _).trans (.modPort _ _ _)).trans (.frameBits _ _ _ _)
      · cases h; exact (WindKept.modPort s p _).trans (.frameBits _ _ _ _)

theorem execPortReset_keeps_wind {p : Port} (h : execPortReset p s = .next t) : WindKept s t := by
  refine awake_keeps_wind h fun h => ?_
  have emptied : WindKept s (((s.shiftStatus p).modPort p fun z => { z with replies := [] }).frameBits p false false) :=
    ((WindKept.shiftStatus s p).trans (.modPort _ _ _)).trans (.frameBits _ _ _ _)
  cases p with
  | plant => cases h; exact emptied.trans .beside
  | tracker => cases h; exact emptied
  | fleet => cases h; exact emptied

theorem execUnknownRequest_keeps_wind {kind : Byte} (h : execUnknownRequest f kind s = .next t) : WindKept s t := by
  unfold execUnknownRequest at h
  split at h
  · cases h
  · exact request_keeps_wind h fun u => .refuse u _

theorem execOutputReport_keeps_wind {pref v : BitVec 16} {n : Byte} {pairs : List (RowId × BitVec 16)}
    (h : execOutputReport f pref v n pairs s = .next t) : WindKept s t := by
  refine request_keeps_wind h fun u => ?_
  split
  · exact .refuse _ _
  · refine .answer ?_
    unfold State.takeSlot
    split <;> exact .beside

theorem execRowStep_keeps_wind (h : execRowStep s = .next t) : WindKept s t := by
  refine awake_keeps_wind h fun h => ?_
  split at h
  · cases h; exact .refl s
  · split at h
    · cases h; exact .refl s
    · next x _ =>
      split at h
      · cases h; exact .refl s
      · next r pm _ =>
        cases h
        have stepped : WindKept s (s.stepRow x r pm.toNat).1 := by
          unfold State.stepRow
          dsimp only
          split
          · exact .refl s
          · split <;> exact .beside
        refine stepped.trans ?_
        unfold State.afterStep
        split <;> exact .beside

theorem execMapBay_keeps_wind {bay : Byte} {entries : Vector PlaceEntry 16} (h : execMapBay f bay entries s = .next t) :
    WindKept s t := by
  refine request_keeps_wind h fun u => ?_
  split
  · exact .refuse _ _
  · split
    · exact .refuse _ _
    · exact .serve_of .beside (KeepsWeather.brings (by simp))

/-! ## Robots, shuttles and the link -/

theorem execCleanDone_keeps_wind {robot : Byte} (h : execCleanDone f robot s = .next t) : WindKept s t := by
  refine request_keeps_wind h fun u => .onRobot fun k => ?_
  split
  · exact .refuse _ _
  · next r _ =>
    have settled : KeepsWeather u.blk ((u.blk.modRow r fun x => { x with cls := 0 }).settleEntry k r Entry.isOpen .done none) := by
      simp
    exact .serve_of .beside settled.brings

theorem execRequestWork_keeps_wind {robot : Byte} (h : execRequestWork f robot s = .next t) : WindKept s t := by
  refine request_keeps_wind h fun u => .onRobot fun k => ?_
  split
  · exact .refuse _ _
  · split <;> simp

theorem execTransfer_keeps_wind {robot : Byte} {dest : Dest} (h : execTransfer f robot dest s = .next t) : WindKept s t := by
  refine request_keeps_wind h fun u => ?_
  split
  · refine .onRobot fun k => ?_
    split
    · exact .refuse _ _
    · next asked => exact .serve ⟨askTransfer_sameWeather asked, by simp⟩
  · exact .refuse _ _

theorem execSetShuttle_keeps_wind {shuttle first last : Byte} (h : execSetShuttle f shuttle first last s = .next t) :
    WindKept s t := by
  refine request_keeps_wind h fun u => ?_
  split
  · next v given _ _ =>
    split
    · exact .refuse _ _
    · split
      · exact .refuse _ _
      · refine .answer (.beside ?_)
        unfold State.setRange
        dsimp only
        split <;> simp
  · exact .refuse _ _

theorem execReadShuttle_keeps_wind {shuttle : Byte} (h : execReadShuttle f shuttle s = .next t) : WindKept s t := by
  refine request_keeps_wind h fun u => ?_
  split
  · exact .refuse _ _
  · refine .answer ?_
    rw [State.linkRead_eq]
    exact .beside

theorem execClearShuttle_keeps_wind {shuttle : Byte} (h : execClearShuttle f shuttle s = .next t) : WindKept s t := by
  refine request_keeps_wind h fun u => ?_
  split
  · exact .refuse _ _
  · split <;> simp

theorem execContendAsserted_keeps_wind (h : execContendAsserted s = .next t) : WindKept s t := by
  unfold execContendAsserted at h
  split at h
  · cases h; exact .refl s
  · split at h <;> cases h <;> exact .beside

/-! ## Every command and every step -/

/-- Every command keeps the mast records in range and STOWD agreed with the weather state. The rules of most requests refuse, or
leave the masts, the weather state and STOWD as they stand. -/
theorem exec_keeps_wind (i : Instr) (h : exec i s = .next t) : WindKept s t := by
  unfold exec at h
  cases i with
  | mastPulse _ => exact execMastPulse_keeps_wind h
  | mastStep => exact execMastStep_keeps_wind h
  | configure _ _ _ => exact execConfigure_keeps_wind h
  | calmHoldoffExpiry => exact expiry_keeps_wind (fun _ => calmHoldoffExpired_brings) h
  | tick => exact execTick_keeps_wind h
  | resetnAsserted => exact execResetnAsserted_keeps_wind h
  | powerOn => exact execPowerOn_keeps_wind h
  | parkDeadlineExpiry => exact expiry_keeps_wind (fun b => (parkDeadlineExpired_keepsWeather b).brings) h
  | holdConfirmExpiry k => exact expiry_keeps_wind (fun b => (holdConfirmExpired_keepsWeather k b).brings) h
  | holdLimitExpiry k => exact expiry_keeps_wind (fun b => (holdLimitExpired_keepsWeather k b).brings) h
  | shuttleStepExpiry v => exact expiry_keeps_wind (fun b => (shuttleStepExpired_keepsWeather v b).brings) h
  | pollDue _ => exact awake_keeps_wind h fun h => by cases h; exact .blk (takePoll_sameWeather _ _)
  | transactionStart => exact awake_keeps_wind h fun h => by cases h; exact .blk (startTransaction_sameWeather _ _ _)
  | transactionCompletion _ =>
    exact awake_keeps_wind h fun h => event_keeps_wind (completeTransaction_keepsWeather _ _ _).brings h
  | contendAsserted => exact execContendAsserted_keeps_wind h
  | contendDeasserted => cases h; exact .beside
  | fetch _ _ => exact execFetch_keeps_wind h
  | statusRead p _ => exact awake_keeps_wind h fun h => by cases h; exact .shiftStatus s p
  | truncatedFrame p =>
    exact awake_keeps_wind h fun h => by cases h; exact (WindKept.shiftStatus s p).trans (.frameBits _ _ _ _)
  | unknownRequest _ _ => exact execUnknownRequest_keeps_wind h
  | portReset _ => exact execPortReset_keeps_wind h
  | rowStep => exact execRowStep_keeps_wind h
  | outputReport _ _ _ _ _ => exact execOutputReport_keeps_wind h
  | mapBay _ _ _ => exact execMapBay_keeps_wind h
  | setShuttle _ _ _ _ => exact execSetShuttle_keeps_wind h
  | readShuttle _ _ => exact execReadShuttle_keeps_wind h
  | clearShuttle _ _ => exact execClearShuttle_keeps_wind h
  | readWeather _ => exact execReadWeather_keeps_wind h
  | requestWork _ _ => exact execRequestWork_keeps_wind h
  | cleanDone _ _ => exact execCleanDone_keeps_wind h
  | transfer _ _ _ => exact execTransfer_keeps_wind h
  | readRow _ _ => exact request_keeps_wind h fun _ => .onRow (.answer .beside)
  | readRobot _ _ => exact request_keeps_wind h fun _ => .onRobot fun _ => by simp
  | setTime _ _ => exact request_keeps_wind h fun _ => .answer .beside
  | closePeriod _ => exact request_keeps_wind h fun _ => .answer .beside
  | readPeriod _ => exact request_keeps_wind h fun _ => .answer .beside
  | readLive _ => exact request_keeps_wind h fun _ => by simp
  | resetAccounts _ => exact request_keeps_wind h fun _ => .answer .beside
  | calibrateRow _ _ _ => exact request_keeps_wind h fun _ => .onRow (.answer .beside)
  | lockRow _ _ => exact request_keeps_wind h fun _ => .onRow (by simp)
  | restoreRow _ _ => exact request_keeps_wind h fun _ => .onRow (by simp)
  | linkResume _ => exact request_keeps_wind h fun _ => by split <;> simp
  | fleetReset _ => exact request_keeps_wind h fun _ => by simp
  | fetchAttention _ _ => exact request_keeps_wind h fun _ => .answer .beside
  | fetchOrders _ => exact request_keeps_wind h fun _ => .answer .beside
  | holdConfirm _ _ => exact request_keeps_wind h fun _ => .onRow (by split <;> simp)
  | stowDone _ _ => exact request_keeps_wind h fun _ => .onRow (by split <;> simp)
  | unstowDone _ _ => exact request_keeps_wind h fun _ => .onRow (by split <;> simp)
  | rowFault _ _ => exact request_keeps_wind h fun _ => .onRow (by simp)
  | rowReady _ _ => exact request_keeps_wind h fun _ => .onRow (by split_ifs <;> simp)
  | enroll _ _ _ => exact request_keeps_wind h fun _ => .onRow (.onRobot fun _ => by split <;> simp)
  | withdraw _ _ => exact request_keeps_wind h fun _ => .onRobot fun _ => by split <;> simp
  | robotStatus _ _ _ _ _ => exact request_keeps_wind h fun _ => .onRobot fun _ => by split <;> simp
  | enterRow _ _ _ => exact request_keeps_wind h fun _ => .onRow (.onRobot fun _ => by split <;> simp)
  | exitRow _ _ => exact request_keeps_wind h fun _ => .onRobot fun _ => by split <;> simp
  | cleanAbort _ _ => exact request_keeps_wind h fun _ => .onRobot fun _ => by split <;> simp
  | braced _ _ => exact request_keeps_wind h fun _ => .onRobot fun _ => by split_ifs <;> simp
  | unbraced _ _ => exact request_keeps_wind h fun _ => .onRobot fun _ => by split_ifs <;> simp

theorem step_keeps_wind (h : step s = .next t) : WindKept s t := by
  unfold step at h
  split at h
  · cases h; exact .refl s
  · next i rest _ => exact WindKept.trans (t := { s with pending := rest }) .beside (exec_keeps_wind i h)

/-- Settles O54: every command keeps the two laws (`exec_keeps_wind`). -/
theorem mastsAndStowdStayAgreed : Obligations.MastsAndStowdStayAgreed := by
  unfold Obligations.MastsAndStowdStayAgreed
  exact ⟨fun s t inRange h => (step_keeps_wind h).masts inRange, fun s t agrees h => (step_keeps_wind h).stowd agrees⟩

end Sys2Proof.Machine
end

section
/-! PROOF. MAST PULSE and TICK (R13, R27, R71, R139, R152, R153): a tick with nothing left of the tick before advances every counter
once. -/

namespace Sys2Proof.Machine

open Sys2Proof

variable {s : State} {e : Env} {b : Block}

/-! ## Nothing left of the tick before (log entry 3) -/

/-- With no entry due nothing is handed out. -/
theorem handOut_none (n : Nat) (running : ∀ d ∈ b.deadlines, d.remaining e.now ≠ 0) : handOut e n b = some b := by
  cases n with
  | zero => rfl
  | succ n =>
    have none' : b.deadlines.find? (fun d => d.remaining e.now == 0) = none :=
      List.find?_eq_none.mpr fun d hd => by simpa using running d hd
    rw [handOut, none']

/-- With no poll due no poll is taken. -/
theorem takePolls_none (l : List ShuttleId) (waits : ∀ u, (b.shuttle u).pollDue ≠ some 0) :
    l.foldl (fun c u => c.takePoll u) b = b := by
  induction l with
  | nil => rfl
  | cons u us ih =>
    rw [List.foldl_cons, Block.takePoll, if_neg (waits u)]
    exact ih

theorem catchUp_none (running : ∀ d ∈ b.deadlines, d.remaining e.now ≠ 0) (waits : ∀ u, (b.shuttle u).pollDue ≠ some 0) :
    b.catchUp e = some b := by
  rw [Block.catchUp, handOut_none _ running, Option.map_some, takePolls_none _ waits]

theorem execTick_next (up : s.inReset = false) (running : ∀ d ∈ s.blk.deadlines, d.remaining s.env.now ≠ 0)
    (waits : ∀ u, (s.blk.shuttle u).pollDue ≠ some 0) : exec .tick s = .next s.tick := by
  show execTick s = _
  rw [execTick, awake, if_neg (by simp [up]), catchUp_none running waits]

/-! ## The counters of a tick -/

theorem latch_eq (x : MastRec) :
    x.latch = { x with
      pulses := 0, pending := some x.pulses, lost := if x.pending = none then x.lost else min 65535 (x.lost + 1) } := by
  unfold MastRec.latch
  cases x.pending <;> rfl

theorem addStorm_eq (x : Bank) :
    x.addStorm = { x with
      stormSeconds := min (2 ^ 32 - 1) (x.stormSeconds + 1)
      saturated := x.saturated || decide (2 ^ 32 - 1 < x.stormSeconds + 1) } := by
  rw [Bank.addStorm, addSat_fst, addSat_snd]

theorem tick_live (s : State) : s.tick.live = if s.blk.weather = .park ∨ s.blk.weather = .stow then s.live.addStorm else s.live :=
  if_congr s.blk.storm_iff rfl rfl

theorem tick_row (s : State) (r : RowId) : s.tick.env.row r = (s.env.row r).tick (s.blk.row r) :=
  row_of_mapAll (t := s.tick) (s := s) rfl r

theorem tick_shuttle (s : State) (u : ShuttleId) : s.tick.blk.shuttle u = (s.blk.shuttle u).tick :=
  mapAll_get s.blk.shuttles _ u

theorem RowData.tick_eq (x : RowState) (d : RowData) :
    d.tick x = { d with holdSeconds := if x.tracker = .held then min 65535 (d.holdSeconds + 1) else d.holdSeconds } := by
  unfold RowData.tick
  split <;> rfl

/-! ## The statement -/

theorem execMastPulse_next (up : s.inReset = false) (m : Mast) :
    exec (.mastPulse m) s = .next (s.setMast m (s.mast m).pulse) := by
  simp [exec, execMastPulse, awake, up]

/-- Settles O45: a pulse by `execMastPulse_next`, and a tick by `execTick_next` with one lemma for each counter. -/
theorem pulsesAndTicks : Obligations.PulsesAndTicks := by
  unfold Obligations.PulsesAndTicks
  refine ⟨fun s up => ⟨execMastPulse_next up .a, execMastPulse_next up .b⟩, fun s up running waits => ?_⟩
  intro storm latched
  refine ⟨s.tick, execTick_next up running waits, ?_, fun r => (tick_row s r).trans (RowData.tick_eq _ _), tick_shuttle s⟩
  have live := tick_live s
  rw [addStorm_eq] at live
  have mastA : s.tick.mastA = latched s.mastA := latch_eq s.mastA
  have mastB : s.tick.mastB = latched s.mastB := latch_eq s.mastB
  rw [← live, ← mastA, ← mastB]
  rfl

end Sys2Proof.Machine
end
